-- ==== Sys2Proof/Word.lean ====
section
/-! DEFINITION. Word.lean: the widths of spec/00_scope.md R6 (`POS_WIDTH`, `ERRCNT_WIDTH`, `MS_WIDTH`, `SAMPLE_WIDTH`) as types. -/

namespace Sys2Proof

/-- An 8-bit value: every register of the block but `POS`, `SNAP_POS` and `PREV` (R6, R20). -/
abbrev Byte := BitVec 8

/-- A stored Position, 16 bits (R11, R22). -/
abbrev Pos := BitVec 16

/-- One sample of the two encoder lines, 2 bits (R12, R21, R35). -/
abbrev Sample := BitVec 2

/-- A decoder code, 4 bits, `{new, prev}` (R71). -/
abbrev Code := BitVec 4

/-- A 7-bit field: a command's magnitude (R77), a status byte's value (R81), an error code (R83). -/
abbrev Seven := BitVec 7

end Sys2Proof
end

