-- ==== Sys2Proof/Syntax.lean ====
section
/-! DEFINITION. Syntax.lean: the rows of spec/opcode_table.json as ONE inductive, the sequencer's micro-states (R200), the four
table actions (R74), the formats (R70) and the event notation (R87). -/

namespace Sys2Proof

/-- A decode table entry, R74: `NOP`, `INC`, `DEC1`, `AMB`. -/
inductive Action where
  | nop | inc | dec1 | amb
  deriving DecidableEq, Repr, Inhabited

/-- Which of the two build-time decode tables is in use, R8. -/
inductive CountMode where
  | quarter | coarse
  deriving DecidableEq, Repr, Inhabited

/-- `FWD_SIGN`, R73: what a P-step counts, +1 or -1. -/
inductive Sign where
  | plus | minus
  deriving DecidableEq, Repr, Inhabited

/-- `LINE_MAP`, R6 and D5: which sample bit is line A; the other is line B. -/
inductive LineMap where
  /-- `ENC[1]` is line A. -/
  | bit1IsA
  /-- `ENC[0]` is line A. -/
  | bit0IsA
  deriving DecidableEq, Repr, Inhabited

/-- The nineteen micro-states of the sequencer, R200. -/
inductive SeqState where
  | s1Enter | s1Read | s1Exit | s1Apply | s2Ack | s3Tx0 | s3Tx1 | s3Tx2 | s3Tx3
  | s4Await | s5aStore | s5aRec | s5aWait | s5aClear | s5bMark | s5bDrain | s5bRef | s5bWait | s5bClear
  deriving DecidableEq, Repr, Inhabited

/-- The formats of R70, the code once for each table, and `event` for the rows that have no bit pattern. -/
inductive Format where
  | quarterCode | coarseCode | command | status | frame | event
  deriving DecidableEq, Repr, Inhabited

/-- Why a word is rejected. -/
inductive DecodeError where
  /-- The number of bytes is not the format's (R70: every format has a fixed length). -/
  | wrongLength
  /-- A decoder code is 4 bits; the byte holds more (R71). -/
  | codeTooWide
  /-- A status byte the device never sends (R86; spec/93 U13: refuse). -/
  | statusNeverSent
  /-- Event rows have no bit pattern (the table's note on each). -/
  | noBitPattern
  /-- A row named outright whose operands no word has: `REV 0` (R184), a frame with a status byte that is never sent (R86). -/
  | illFormed
  deriving DecidableEq, Repr, Inhabited

/-- The rows of spec/opcode_table.json, one constructor each. -/
inductive Instr where
  /-- `Q0`: code 0, quarter table (R104). -/
  | q0
  /-- `Q1`: code 1, quarter table (R105). -/
  | q1
  /-- `Q2`: code 2, quarter table (R106). -/
  | q2
  /-- `Q3`: code 3, quarter table (R107). -/
  | q3
  /-- `Q4`: code 4, quarter table (R108). -/
  | q4
  /-- `Q5`: code 5, quarter table (R109). -/
  | q5
  /-- `Q6`: code 6, quarter table (R110). -/
  | q6
  /-- `Q7`: code 7, quarter table (R111). -/
  | q7
  /-- `Q8`: code 8, quarter table (R112). -/
  | q8
  /-- `Q9`: code 9, quarter table (R113). -/
  | q9
  /-- `Q10`: code 10, quarter table (R114). -/
  | q10
  /-- `Q11`: code 11, quarter table (R115). -/
  | q11
  /-- `Q12`: code 12, quarter table (R116). -/
  | q12
  /-- `Q13`: code 13, quarter table (R117). -/
  | q13
  /-- `Q14`: code 14, quarter table (R118). -/
  | q14
  /-- `Q15`: code 15, quarter table (R119). -/
  | q15
  /-- `C0`: code 0, coarse table (R121). -/
  | c0
  /-- `C1`: code 1, coarse table (R122). -/
  | c1
  /-- `C2`: code 2, coarse table (R123). -/
  | c2
  /-- `C3`: code 3, coarse table (R124). -/
  | c3
  /-- `C4`: code 4, coarse table (R125). -/
  | c4
  /-- `C5`: code 5, coarse table (R126). -/
  | c5
  /-- `C6`: code 6, coarse table (R127). -/
  | c6
  /-- `C7`: code 7, coarse table (R128). -/
  | c7
  /-- `C8`: code 8, coarse table (R129). -/
  | c8
  /-- `C9`: code 9, coarse table (R130). -/
  | c9
  /-- `C10`: code 10, coarse table (R131). -/
  | c10
  /-- `C11`: code 11, coarse table (R132). -/
  | c11
  /-- `C12`: code 12, coarse table (R133). -/
  | c12
  /-- `C13`: code 13, coarse table (R134). -/
  | c13
  /-- `C14`: code 14, coarse table (R135). -/
  | c14
  /-- `C15`: code 15, coarse table (R136). -/
  | c15
  /-- `ACK`, the byte 0x80 (R185). -/
  | ack
  /-- `FWD m`, bytes 0x00..0x7F (R183). -/
  | fwd (m : Seven)
  /-- `REV m`, bytes 0x81..0xFF, m in 1..127 (R184). -/
  | rev (m : Seven)
  /-- `STATUS.ELAPSED`: a status byte with bit 7 clear, value v (R205). -/
  | statusElapsed (v : Seven)
  /-- `STATUS.POWERED_ON`: `CODE_POWERED_ON | 0x80` (R205). -/
  | statusPoweredOn
  /-- `STATUS.COMMAND_TIMEOUT`: `CODE_COMMAND_TIMEOUT | 0x80` (R205). -/
  | statusCommandTimeout
  /-- `FRAME`: the four bytes in order of transmission (R82). -/
  | frame (lo hi err status : Byte)
  /-- `DEC`, the decode handler's step (R100). -/
  | dec
  /-- `TICK`, the timing source fires (R150). -/
  | tick
  /-- `CLK`, the tick handler's step (R151). -/
  | clk
  /-- `ENC s`, the lines take the value s (R160). -/
  | enc (smp : Sample)
  /-- `RX b`, a host byte arrives (R39). -/
  | rx (b : Byte)
  /-- `CS_ENTER` (R165). -/
  | csEnter
  /-- `SNAP_READ` (R166). -/
  | snapRead
  /-- `CS_EXIT` (R167). -/
  | csExit
  /-- `APPLY` (R180). -/
  | apply
  /-- `ACKCHK` (R186). -/
  | ackchk
  /-- `FORCE_ZERO` (R187). -/
  | forceZero
  /-- `MS_READ` (R152). -/
  | msRead
  /-- `MS_CLEAR` (R153). -/
  | msClear
  /-- `SEQ.S1_ENTER` (R201). -/
  | s1Enter
  /-- `SEQ.S1_READ` (R202). -/
  | s1Read
  /-- `SEQ.S1_EXIT` (R203). -/
  | s1Exit
  /-- `SEQ.S1_APPLY` (R204). -/
  | s1Apply
  /-- `SEQ.S2_ACK` (R206). -/
  | s2Ack
  /-- `SEQ.S3_TX0` (R207). -/
  | s3Tx0
  /-- `SEQ.S3_TX1` (R208). -/
  | s3Tx1
  /-- `SEQ.S3_TX2` (R209). -/
  | s3Tx2
  /-- `SEQ.S3_TX3` (R210). -/
  | s3Tx3
  /-- `SEQ.S4_AWAIT` (R211). -/
  | s4Await
  /-- `SEQ.S5A_STORE` (R213). -/
  | s5aStore
  /-- `SEQ.S5A_REC` (R214). -/
  | s5aRec
  /-- `SEQ.S5A_WAIT` (R215). -/
  | s5aWait
  /-- `SEQ.S5A_CLEAR` (R216). -/
  | s5aClear
  /-- `SEQ.S5B_MARK` (R217). -/
  | s5bMark
  /-- `SEQ.S5B_DRAIN` (R218). -/
  | s5bDrain
  /-- `SEQ.S5B_REF` (R219). -/
  | s5bRef
  /-- `SEQ.S5B_WAIT` (R220). -/
  | s5bWait
  /-- `SEQ.S5B_CLEAR` (R221). -/
  | s5bClear
  deriving DecidableEq, Repr, Inhabited

/-- One step of one agent (R34, R87). `ready` is ENV's decision whether the transport accepts a byte (R41), which R87's
notation leaves implicit in `TX`. -/
inductive AgentEvent where
  | enc (smp : Sample)
  | tick
  | rx (b : Byte)
  | ready (r : Bool)
  | dec
  | clk
  | seq
  deriving DecidableEq, Repr, Inhabited

/-- One line of an event trace (R87): an agent's step; `TX b`, a sequencer step that asserts the byte it sends; a row of the
table named outright (as `SEQ S1_APPLY` or the `MS` clear of vector V5); a row written as its bits, which is decoded, bare or in a
format that is known. -/
inductive Event where
  | agent (a : AgentEvent)
  | tx (b : Byte)
  | row (i : Instr)
  | word (bytes : List Byte)
  | wordIn (f : Format) (bytes : List Byte)
  deriving DecidableEq, Repr, Inhabited

end Sys2Proof
end

