-- ==== Sys2Proof/Config.lean ====
section
/-! DEFINITION. Config.lean: the parameters of spec/00_scope.md R6, the constants the encodings fix, and the free values. -/

namespace Sys2Proof

/-- The parameters of R6 that a claim quantifies over. They are build-time constants (R8): State carries them in a field that no
step writes. -/
structure Config where
  /-- `COUNT_MODE` (R8). -/
  countMode : CountMode
  /-- `FWD_SIGN` (R73). -/
  fwdSign : Sign
  /-- `LINE_MAP` (R35), open. -/
  lineMap : LineMap
  /-- `CADENCE_TICKS`. -/
  cadenceTicks : Nat
  /-- `TIMEOUT_TICKS`. -/
  timeoutTicks : Nat
  /-- `DUTY_SCALE`. -/
  dutyScale : Nat
  /-- `ELAPSED_TIMEOUT`. -/
  elapsedTimeout : Byte
  /-- `CODE_POWERED_ON`. -/
  codePoweredOn : Seven
  /-- `CODE_COMMAND_TIMEOUT`. -/
  codeCommandTimeout : Seven
  /-- `PREV_RESET`, open. -/
  prevReset : Sample
  /-- `RX_DEPTH`, open, at least 1. -/
  rxDepth : Nat
  deriving DecidableEq, Repr

/-- The value column of R6. `PREV_RESET`, `RX_DEPTH` and `LINE_MAP` are open there: DESIGN
CHOICE 0b00, 2 and `ENC[1]` = A (logs 3, 9 and 19). -/
def Config.default : Config where
  countMode := .quarter
  fwdSign := .plus
  lineMap := .bit1IsA
  cadenceTicks := 20
  timeoutTicks := 50
  dutyScale := 2
  elapsedTimeout := 0xFF#8
  codePoweredOn := 1#7
  codeCommandTimeout := 2#7
  prevReset := 0b00#2
  rxDepth := 2

/-- `SENTINEL`, the acknowledge byte, fixed by the encoding table (R78; log 25). -/
def Config.sentinel : Byte := 0x80#8

/-- `TABLE_SIZE` (R50). -/
def Config.tableSize : Nat := 16

/-- `FRAME_LEN` (R82). -/
def Config.frameLen : Nat := 4

/-- FREE VALUE (log 1): the agent that steps when nothing more is said of the interleaving (R61, R163, R172). Unsafe only to a
claim that chooses one. -/
opaque Config.freeSchedule : Nat → AgentEvent

/-- FREE VALUE (log 8): `AWAIT_PRIORITY` = either (R212); true is the branch to `S5A_STORE`. -/
opaque Config.freeAwaitChoice : Nat → Bool

end Sys2Proof
end

