-- ==== Sys2Proof/WellFormed.lean ====
section
/-! DEFINITION. WellFormed.lean: the checks the spec puts on an instruction's operands (R78, R184) and on the parameters (R6, R7). -/

namespace Sys2Proof

/-- The status bytes the device sends (R86): bit 7 clear, or one of the two error codes with bit 7 set. -/
def Config.sendsStatus (c : Config) (b : Byte) : Bool :=
  !b.getLsbD 7 || decide (b = (c.codePoweredOn.setWidth 8 ||| 0x80#8)) ||
  decide (b = (c.codeCommandTimeout.setWidth 8 ||| 0x80#8))

/-- R184: a `REV m` has `m` in 1..127; "there is no reverse, magnitude 0 command distinct from `ACK`" (R78). R86: the fourth byte
of a frame is a status byte the device sends. Every other operand takes all the values its width has (R81, R82, R85, R160). -/
def Instr.wf (c : Config) : Instr → Bool
  | .rev m => decide (m ≠ 0#7)
  | .frame _ _ _ status => c.sendsStatus status
  | _ => true

/-- R7 and the bounds of R6: the duty fits 8 bits; the thresholds are ordered and below 128; the error codes are distinct and in
1..127; `ELAPSED_TIMEOUT` lies above 127, as R7 needs it above any elapsed value recorded; the transport holds a byte at least. -/
def Config.wf (c : Config) : Bool :=
  decide (c.dutyScale * 127 ≤ 255) && decide (c.cadenceTicks < c.timeoutTicks) && decide (c.timeoutTicks < 128) &&
  decide (c.codePoweredOn ≠ 0#7) && decide (c.codeCommandTimeout ≠ 0#7) &&
  decide (c.codePoweredOn ≠ c.codeCommandTimeout) && decide (128 ≤ c.elapsedTimeout.toNat) && decide (1 ≤ c.rxDepth)

end Sys2Proof
end

