-- ==== Sys2Proof/Decode.lean ====
section
/-! DEFINITION. Decode.lean: from bits to the table's rows and back (spec/30_encoding.md). A decoder code, a command byte, a status
byte and a frame are told apart by where they stand, not by their bits: `decode` takes the format; `decodeWord` resolves a word
of which only the width is known (log 10). -/

namespace Sys2Proof

/-- The 8-bit error status of a 7-bit code: `code | 0x80` (R81, R205). -/
def errorStatus (code : Seven) : Byte := code.setWidth 8 ||| 0x80#8

/-- The row of the quarter table a code selects (R103 to R119). -/
def quarterRow (code : Code) : Instr :=
  match code.toNat with
  | 0 => .q0
  | 1 => .q1
  | 2 => .q2
  | 3 => .q3
  | 4 => .q4
  | 5 => .q5
  | 6 => .q6
  | 7 => .q7
  | 8 => .q8
  | 9 => .q9
  | 10 => .q10
  | 11 => .q11
  | 12 => .q12
  | 13 => .q13
  | 14 => .q14
  | _ => .q15

/-- The row of the coarse table a code selects (R120 to R136). -/
def coarseRow (code : Code) : Instr :=
  match code.toNat with
  | 0 => .c0
  | 1 => .c1
  | 2 => .c2
  | 3 => .c3
  | 4 => .c4
  | 5 => .c5
  | 6 => .c6
  | 7 => .c7
  | 8 => .c8
  | 9 => .c9
  | 10 => .c10
  | 11 => .c11
  | 12 => .c12
  | 13 => .c13
  | 14 => .c14
  | _ => .c15

/-- The row a code selects under a build (R8, R100). -/
def codeRow (mode : CountMode) (code : Code) : Instr :=
  match mode with
  | .quarter => quarterRow code
  | .coarse => coarseRow code

/-- A byte read as a decoder code: 4 bits, nothing above them (R71). -/
def decodeCode (mode : CountMode) (b : Byte) : Except DecodeError Instr :=
  if b.toNat < 16 then .ok (codeRow mode (b.setWidth 4)) else .error .codeTooWide

/-- The class of a command byte, in R78's order: the sentinel first, then the reverse flag. Every byte has one (R79, R85). -/
def decodeCommand (b : Byte) : Instr :=
  if b = Config.sentinel then .ack
  else if b.getLsbD 7 then .rev (b.setWidth 7)
  else .fwd (b.setWidth 7)

/-- A status byte (R81, R205); a byte the device never sends is refused (R86). -/
def decodeStatus (c : Config) (b : Byte) : Except DecodeError Instr :=
  if b.getLsbD 7 = false then .ok (.statusElapsed (b.setWidth 7))
  else if b = errorStatus c.codePoweredOn then .ok .statusPoweredOn
  else if b = errorStatus c.codeCommandTimeout then .ok .statusCommandTimeout
  else .error .statusNeverSent

/-- Decoding in a known format, total on any bytes. A frame's fourth byte is a status byte, and one that is never sent is refused
there too (R86; spec/93 U13). -/
def decode (c : Config) (f : Format) (bytes : List Byte) : Except DecodeError Instr :=
  match f, bytes with
  | .quarterCode, [b] => decodeCode .quarter b
  | .coarseCode, [b] => decodeCode .coarse b
  | .command, [b] => .ok (decodeCommand b)
  | .status, [b] => decodeStatus c b
  | .frame, [b0, b1, b2, b3] =>
    match decodeStatus c b3 with
    | .ok _ => .ok (.frame b0 b1 b2 b3)
    | .error e => .error e
  | .event, _ => .error .noBitPattern
  | _, _ => .error .wrongLength

/-- The format a bare word is read in (log 10). The formats' words overlap, so the rows with most fixed bits come first, then
table order: 0x80 and the two error status bytes, the sixteen codes of the table in use, the command bytes. Four bytes are a
frame. -/
def formatOfWord (c : Config) (bytes : List Byte) : Format :=
  match bytes with
  | [b] =>
    if b = Config.sentinel then .command
    else if b = errorStatus c.codePoweredOn ∨ b = errorStatus c.codeCommandTimeout then .status
    else if b.toNat < 16 then (match c.countMode with | .quarter => .quarterCode | .coarse => .coarseCode)
    else .command
  | [_, _, _, _] => .frame
  | [] => .event
  | _ => .frame

/-- Decoding a bare word (log 10). -/
def decodeWord (c : Config) (bytes : List Byte) : Except DecodeError Instr :=
  decode c (formatOfWord c bytes) bytes

/-- The `n` bytes of a word, bits 7:0 first: byte 0 of a frame is sent first (R82). -/
def bytesOfWord : Nat → Nat → List Byte
  | 0, _ => []
  | n + 1, w => BitVec.ofNat 8 w :: bytesOfWord n (w / 256)

/-- The bytes of a table word of `nbits` bits, in whole bytes. -/
def layoutWord (nbits w : Nat) : List Byte := bytesOfWord ((nbits + 7) / 8) w

/-- What this decoder reads from a table row's word (log 10). -/
def decodeTableWord (nbits w : Nat) : Option Instr :=
  match decodeWord Config.default (layoutWord nbits w) with
  | .ok i => some i
  | .error _ => none

/-! The encoder, from the same tables. -/

/-- One byte holding a 4-bit code (R71). -/
def codeBytes (code : Code) : List Byte := [code.setWidth 8]

/-- The format and the bytes of an instruction; the event rows have none. -/
def encode (c : Config) (i : Instr) : Option (Format × List Byte) :=
  match i with
  | .q0 => some (.quarterCode, codeBytes 0#4)
  | .q1 => some (.quarterCode, codeBytes 1#4)
  | .q2 => some (.quarterCode, codeBytes 2#4)
  | .q3 => some (.quarterCode, codeBytes 3#4)
  | .q4 => some (.quarterCode, codeBytes 4#4)
  | .q5 => some (.quarterCode, codeBytes 5#4)
  | .q6 => some (.quarterCode, codeBytes 6#4)
  | .q7 => some (.quarterCode, codeBytes 7#4)
  | .q8 => some (.quarterCode, codeBytes 8#4)
  | .q9 => some (.quarterCode, codeBytes 9#4)
  | .q10 => some (.quarterCode, codeBytes 10#4)
  | .q11 => some (.quarterCode, codeBytes 11#4)
  | .q12 => some (.quarterCode, codeBytes 12#4)
  | .q13 => some (.quarterCode, codeBytes 13#4)
  | .q14 => some (.quarterCode, codeBytes 14#4)
  | .q15 => some (.quarterCode, codeBytes 15#4)
  | .c0 => some (.coarseCode, codeBytes 0#4)
  | .c1 => some (.coarseCode, codeBytes 1#4)
  | .c2 => some (.coarseCode, codeBytes 2#4)
  | .c3 => some (.coarseCode, codeBytes 3#4)
  | .c4 => some (.coarseCode, codeBytes 4#4)
  | .c5 => some (.coarseCode, codeBytes 5#4)
  | .c6 => some (.coarseCode, codeBytes 6#4)
  | .c7 => some (.coarseCode, codeBytes 7#4)
  | .c8 => some (.coarseCode, codeBytes 8#4)
  | .c9 => some (.coarseCode, codeBytes 9#4)
  | .c10 => some (.coarseCode, codeBytes 10#4)
  | .c11 => some (.coarseCode, codeBytes 11#4)
  | .c12 => some (.coarseCode, codeBytes 12#4)
  | .c13 => some (.coarseCode, codeBytes 13#4)
  | .c14 => some (.coarseCode, codeBytes 14#4)
  | .c15 => some (.coarseCode, codeBytes 15#4)
  | .ack => some (.command, [Config.sentinel])
  | .fwd m => some (.command, [m.setWidth 8])
  | .rev m => some (.command, [m.setWidth 8 ||| 0x80#8])
  | .statusElapsed v => some (.status, [v.setWidth 8])
  | .statusPoweredOn => some (.status, [errorStatus c.codePoweredOn])
  | .statusCommandTimeout => some (.status, [errorStatus c.codeCommandTimeout])
  | .frame lo hi err status => some (.frame, [lo, hi, err, status])
  | .dec | .tick | .clk | .enc _ | .rx _ => none
  | .csEnter | .snapRead | .csExit | .apply | .ackchk | .forceZero | .msRead | .msClear => none
  | .s1Enter | .s1Read | .s1Exit | .s1Apply | .s2Ack => none
  | .s3Tx0 | .s3Tx1 | .s3Tx2 | .s3Tx3 | .s4Await => none
  | .s5aStore | .s5aRec | .s5aWait | .s5aClear => none
  | .s5bMark | .s5bDrain | .s5bRef | .s5bWait | .s5bClear => none

/-- How many bytes a format's words have (R70). -/
def Format.size : Format → Nat
  | .quarterCode | .coarseCode | .command | .status => 1
  | .frame => 4
  | .event => 0

end Sys2Proof
end

