-- ==== Sys2Proof/Machine/State.lean ====
section
/-! DEFINITION. Machine/State.lean: the machine's state as plain data (spec/10_state.md), the reset state (R280 to R282) and the
reasons a step can stop. -/

namespace Sys2Proof.Machine

/-- ErrorState, R26: one slot of three values. The spec stores it in 2 bits whose fourth value is unreachable; the enumeration
has no such value (log 18). -/
inductive ErrState where
  | noError | poweredOn | commandTimeout
  deriving DecidableEq, Repr, Inhabited

/-- The direction handed to `setDirection`, R30: `forward` is `DIR` = 0, `reverse` is `DIR` = 1. -/
inductive Direction where
  | forward | reverse
  deriving DecidableEq, Repr, Inhabited

/-- The whole state. Registers carry the spec's names in lower case; R20's table and R35, R39, R40. -/
structure State where
  /-- The parameters of R6, constant (R8, log 2). -/
  cfg : Config
  /-- `ENC`, the input lines (R35). -/
  enc : Sample
  /-- Whether the transport accepts a byte now, an input (R41, log 6). -/
  txReady : Bool
  /-- `PREV` (R21). -/
  prev : Sample
  /-- `POS` (R22). -/
  pos : Pos
  /-- `ERRCNT` (R23). -/
  errcnt : Byte
  /-- `MS` (R24). -/
  ms : Byte
  /-- `CMD` (R25). -/
  cmd : Byte
  /-- `ERRST` (R26). -/
  errst : ErrState
  /-- `ELAPSED` (R27). -/
  elapsed : Byte
  /-- `SNAP_POS` (R28). -/
  snapPos : Pos
  /-- `SNAP_ERR` (R28). -/
  snapErr : Byte
  /-- `DUTY` (R29). -/
  duty : Byte
  /-- `DIR` (R30). -/
  dir : Direction
  /-- `IMASK` (R36). -/
  imask : Bool
  /-- `DPEND` (R37). -/
  dpend : Bool
  /-- `TPEND` (R38). -/
  tpend : Bool
  /-- `SEQ`, the only program counter (R33). -/
  seq : SeqState
  /-- `T0` (R33). -/
  t0 : Byte
  /-- `RXQ`, oldest byte first (R39). -/
  rxq : List Byte
  /-- `TXLOG`, first sent first (R40). -/
  txlog : List Byte
  /-- MODEL: the events to come (R87, log 1). -/
  trace : List Event
  /-- MODEL: how many free values have been drawn (logs 1 and 8). -/
  freeIdx : Nat
  deriving DecidableEq, Repr

/-- Why the machine stops with a fault. -/
inductive Fault where
  /-- Raised by `SNAP_READ` while `IMASK` = 0: R166's precondition fails, and the spec gives no value to such a read (R293 forbids
  it). Safe: no legal run reaches it (log 12). -/
  | snapshotUnmasked
  deriving DecidableEq, Repr

/-- Why a step has no meaning. -/
inductive Refusal where
  /-- Raised by a refused arm of `exec`, by mnemonic. Safe. No arm uses it. -/
  | notModelled (mnemonic : String)
  /-- Raised by `RX b` when `RXQ` already holds `RX_DEPTH` bytes: R39 has the model refuse it. Safe (log 14). -/
  | rxOverrun
  /-- Raised by `readByte` when `RXQ` is empty: R43 gives that call no step. Safe: no legal run reaches it (log 13). -/
  | readByteEmpty
  /-- Raised when the trace holds a word that no format admits, an ill-formed row, or a status byte the device never sends (R86;
  spec/93 U13). Safe (logs 10 and 29). -/
  | undecodable (e : DecodeError)
  deriving DecidableEq, Repr

/-- Power-on (R280, R281) of a build `c` with the lines resting at `e`. `ELAPSED`, `SNAP_POS`, `SNAP_ERR` and `T0` have no value
in the spec: DESIGN CHOICE 0 (log 4). -/
def State.powerOn (c : Config) (e : Sample) : State where
  cfg := c
  enc := e
  txReady := true
  prev := c.prevReset
  pos := 0#16
  errcnt := 0#8
  ms := 0#8
  cmd := 0#8
  errst := .poweredOn
  elapsed := 0#8
  snapPos := 0#16
  snapErr := 0#8
  duty := 0#8
  dir := .forward
  imask := false
  dpend := false
  tpend := false
  seq := .s1Enter
  t0 := 0#8
  rxq := []
  txlog := []
  trace := []
  freeIdx := 0

/-- The machine right after reset: the default build, the encoder resting at 00 (logs 2 and 3). -/
def State.reset : State := State.powerOn Config.default 0b00#2

/-- What a step answers. -/
abbrev Out := Host.Outcome State Fault Refusal

end Sys2Proof.Machine
end

