-- ==== Sys2Proof/Machine/Table.lean ====
section
/-! DEFINITION. Machine/Table.lean: the decode table `TBL` (R50), in both variants (R103, R120), and the classes of codes it is
built from (R72, R73, R102). -/

namespace Sys2Proof.Machine

/-- The new sample of a code, bits 3:2 (R71). -/
def newOf (code : Code) : Sample := code.extractLsb' 2 2

/-- The previous sample of a code, bits 1:0 (R71). -/
def prevOf (code : Code) : Sample := code.extractLsb' 0 2

/-- The code `{new, prev}` (R71). -/
def mkCode (new prev : Sample) : Code := new ++ prev

/-- The quarter-count table, R103. -/
def quarterTable (code : Code) : Action :=
  match code.toNat with
  | 1 | 7 | 8 | 14 => .inc
  | 2 | 4 | 11 | 13 => .dec1
  | 3 | 6 | 9 | 12 => .amb
  | _ => .nop

/-- The coarse table, R120. -/
def coarseTable (code : Code) : Action :=
  match code.toNat with
  | 1 => .inc
  | 2 => .dec1
  | 3 | 6 | 9 | 12 => .amb
  | _ => .nop

/-- `TBL` under a variant, written for `FWD_SIGN` = +1. -/
def tableOf (mode : CountMode) (code : Code) : Action :=
  match mode with
  | .quarter => quarterTable code
  | .coarse => coarseTable code

/-- With `FWD_SIGN` = -1 every `INC` becomes `DEC1` and every `DEC1` becomes `INC` (R73; the head of spec/40_decoder.md). -/
def orient (sign : Sign) (act : Action) : Action :=
  match sign, act with
  | .minus, .inc => .dec1
  | .minus, .dec1 => .inc
  | _, a => a

/-- `TBL[code]` of a build (R50). -/
def tbl (c : Config) (code : Code) : Action := orient c.fwdSign (tableOf c.countMode code)

/-- The class of a code, R72. -/
inductive CodeClass where
  | noChange | singleLine | bothChanged
  deriving DecidableEq, Repr

/-- R72, by `new XOR prev`. -/
def classOf (code : Code) : CodeClass :=
  if newOf code ^^^ prevOf code = 0b00#2 then .noChange
  else if newOf code ^^^ prevOf code = 0b11#2 then .bothChanged
  else .singleLine

/-- R73: a single-line code is a P-step exactly when `code[0] XOR code[3]` = 1. -/
def isPStep (code : Code) : Bool := code.getLsbD 0 ^^ code.getLsbD 3

/-- The sample after `smp` along 00→10→11→01→00, the P direction (R73, R88). -/
def nextP (smp : Sample) : Sample :=
  match smp.toNat with
  | 0 => 0b10#2
  | 1 => 0b00#2
  | 2 => 0b11#2
  | _ => 0b01#2

/-- The sample before `smp` in that sequence, the N direction (R73, R88). -/
def nextN (smp : Sample) : Sample :=
  match smp.toNat with
  | 0 => 0b01#2
  | 1 => 0b11#2
  | 2 => 0b00#2
  | _ => 0b10#2

end Sys2Proof.Machine
end

