-- ==== Sys2Proof/Machine/Operands.lean ====
section
/-! DEFINITION. Machine/Operands.lean: the operands every operation reads: an action's addends (R74, R76), the command byte's fields
(R77, R80), the status byte (R81, R205), the frame's bytes (R53, R82), the signed reading of Position (R11). -/

namespace Sys2Proof.Machine

/-- The signed delta of an action (R74), as a 2-bit two's-complement value. -/
def Action.delta (act : Action) : BitVec 2 :=
  match act with
  | .inc => 0b01#2
  | .dec1 => 0b11#2
  | .nop | .amb => 0b00#2

/-- The 16-bit addend of an action, the delta sign-extended (R76): 0x0001, 0xFFFF or 0x0000. -/
def Action.addend (act : Action) : Pos := (Action.delta act).signExtend 16

/-- The error increment of an action (R74), zero-extended to 8 bits (R76). -/
def Action.errAddend (act : Action) : Byte :=
  match act with
  | .amb => 1#8
  | .nop | .inc | .dec1 => 0#8

/-- The code the DEC step forms now: `{ENC, PREV}` (R71, R100). -/
def State.code (s : State) : Code := mkCode s.enc s.prev

/-- The level of line A in a sample, by `LINE_MAP` (R35, D5). -/
def lineA (c : Config) (smp : Sample) : Bool :=
  match c.lineMap with
  | .bit1IsA => smp.getLsbD 1
  | .bit0IsA => smp.getLsbD 0

/-- The level of line B in a sample: the other bit. -/
def lineB (c : Config) (smp : Sample) : Bool :=
  match c.lineMap with
  | .bit1IsA => smp.getLsbD 0
  | .bit0IsA => smp.getLsbD 1

/-- The sample of the levels of lines A and B, by `LINE_MAP`: what `ENC s` carries for them (R35, R160). -/
def sampleOfLines (c : Config) (a b : Bool) : Sample :=
  match c.lineMap with
  | .bit1IsA => BitVec.ofBool a ++ BitVec.ofBool b
  | .bit0IsA => BitVec.ofBool b ++ BitVec.ofBool a

/-- `CMD[7]`, the reverse flag (R77). -/
def reverseFlag (cmd : Byte) : Bool := cmd.getLsbD 7

/-- `CMD[6:0]`, the magnitude (R77). -/
def magnitude (cmd : Byte) : Seven := cmd.setWidth 7

/-- `DIR` from the reverse flag: 0 forward, 1 reverse (R30, R181). -/
def directionOf (reverse : Bool) : Direction := if reverse then .reverse else .forward

/-- `DUTY_SCALE * zext_8(M)`, truncated to `DUTY`'s 8 bits (R10, R80, R182). -/
def scaledDuty (c : Config) (m : Seven) : Byte := BitVec.ofNat 8 (c.dutyScale * m.toNat)

/-- The duty APPLY writes for a magnitude: the scaled value, or 0 while an error is active (R182). -/
def gatedDuty (s : State) (m : Seven) : Byte :=
  match s.errst with
  | .noError => scaledDuty s.cfg m
  | .poweredOn | .commandTimeout => 0#8

/-- `STATUS` (R81, R205). -/
def State.status (s : State) : Byte :=
  match s.errst with
  | .noError => s.elapsed
  | .poweredOn => errorStatus s.cfg.codePoweredOn
  | .commandTimeout => errorStatus s.cfg.codeCommandTimeout

/-- PositionLow, `SNAP_POS[7:0]` (R53). -/
def State.positionLow (s : State) : Byte := s.snapPos.extractLsb' 0 8

/-- PositionHigh, `SNAP_POS[15:8]` (R53). -/
def State.positionHigh (s : State) : Byte := s.snapPos.extractLsb' 8 8

/-- The four bytes of the ResponseFrame, in order of transmission (R82). -/
def State.frameBytes (s : State) : List Byte := [s.positionLow, s.positionHigh, s.snapErr, s.status]

/-- The signed reading of a stored Position (R11). -/
def signedPosition (p : Pos) : Int := if p.toNat < 32768 then p.toNat else (p.toNat : Int) - 65536

/-- How the host rebuilds Position from bytes 0 and 1 of a frame: `byte0 + 256 * byte1` (R82). -/
def hostPosition (byte0 byte1 : Byte) : Pos := byte1 ++ byte0

/-- `byteAvailable()` (R42). -/
def State.byteAvailable (s : State) : Bool := !s.rxq.isEmpty

/-- `MS >= TIMEOUT_TICKS` (R211). -/
def State.timedOut (s : State) : Bool := decide (s.cfg.timeoutTicks ≤ s.ms.toNat)

/-- One poll's test of the cadence wait (R215): below the cadence an equality with it, otherwise a change since `ELAPSED`. -/
def State.cadenceDone (s : State) : Bool :=
  if s.elapsed.toNat < s.cfg.cadenceTicks then decide (s.ms.toNat = s.cfg.cadenceTicks) else decide (s.ms ≠ s.elapsed)

end Sys2Proof.Machine
end

