-- ==== Sys2Proof/Machine/Flags.lean ====
section
/-! DEFINITION. Machine/Flags.lean: the status bits: the two pending latches, the mask that gates both (R36 to R38, R161, R246 to
R248), and the error slot (R26, R240 to R245). -/

namespace Sys2Proof.Machine

/-- The two interrupts, R246. -/
inductive Irq where
  /-- The decoder's edge interrupt. -/
  | edge
  /-- The clock's tick interrupt. -/
  | tick
  deriving DecidableEq, Repr

/-- `DPEND` or `TPEND` (R37, R38). -/
def State.pending (s : State) (q : Irq) : Bool :=
  match q with
  | .edge => s.dpend
  | .tick => s.tpend

/-- When a handler may run: its request is pending and `IMASK` = 0 (R161). -/
def State.irqEnabled (s : State) (q : Irq) : Bool := s.pending q && !s.imask

/-- A request latches; a second one leaves the latch set (R164, R248). -/
def State.request (s : State) (q : Irq) : State :=
  match q with
  | .edge => { s with dpend := true }
  | .tick => { s with tpend := true }

/-- The handler's run clears the request it served (R248, R255). -/
def State.clearPending (s : State) (q : Irq) : State :=
  match q with
  | .edge => { s with dpend := false }
  | .tick => { s with tpend := false }

/-- `IMASK <- 1` (R165). -/
def State.maskOn (s : State) : State := { s with imask := true }

/-- `IMASK <- 0` (R167). -/
def State.maskOff (s : State) : State := { s with imask := false }

end Sys2Proof.Machine
end

