-- ==== Sys2Proof/Machine/Ops.lean ====
section
/-! DEFINITION. Machine/Ops.lean: the named operations the meanings share: interrupt entry and return, error entry and return, the
registers' updates, the transport's services, and how a step that is not enabled leaves the machine alone. -/

namespace Sys2Proof.Machine

/-- A step that is enabled only where `c` holds: elsewhere the agent does not move (R10; vector V5 rows 6 and 7; log 7). -/
def when (c : Bool) (s : State) (body : State → Out) : Out := if c then body s else .next s

/-- A sequencer micro-state's step, taken when `SEQ` holds it (R33, R200). -/
def atState (q : SeqState) (s : State) (body : State → Out) : Out := when (decide (s.seq = q)) s body

/-- `SEQ <- q` (R10, R33). -/
def State.goto (s : State) (q : SeqState) : State := { s with seq := q }

/-! Interrupts. -/

/-- RETURNING FROM AN INTERRUPT: the pending flag served is 0; nothing else is restored (R253, R255). -/
def returnFromInterrupt (q : Irq) (s : State) : State := s.clearPending q

/-- TAKING AN INTERRUPT: entry saves no state, masks nothing and leaves `SEQ` alone; the handler's whole work and its return are
one atomic step (R161, R162, R253, R255). -/
def takeInterrupt (q : Irq) (handler : State → State) (s : State) : Out :=
  when (s.irqEnabled q) s fun s => .next (returnFromInterrupt q (handler s))

/-- The decode handler's work for an action: R100's writes of `POS`, `ERRCNT` and `PREV`. -/
def State.count (s : State) (act : Action) : State :=
  { s with pos := s.pos + Action.addend act, errcnt := s.errcnt + Action.errAddend act, prev := s.enc }

/-- The DEC step whose code is `code` under the variant `mode`: enabled as DEC is (R161), in that build (R8), when the code formed
is that one (R100). `act` is the row's action for `FWD_SIGN` = +1. -/
def codeStep (mode : CountMode) (code : Code) (act : Action) (s : State) : Out :=
  when (decide (s.cfg.countMode = mode) && decide (s.code = code)) s fun s =>
    takeInterrupt .edge (fun s => s.count (orient s.cfg.fwdSign act)) s

/-- `MS <- (MS + 1) mod 256` (R151). -/
def State.countTick (s : State) : State := { s with ms := s.ms + 1#8 }

/-- The one read of `MS` in a sequencer step (R152). -/
def State.readMs (s : State) : Byte := s.ms

/-- `MS <- 0` (R153). -/
def State.clearMs (s : State) : State := { s with ms := 0#8 }

/-! Errors. None of them transfers control (R10, R254). -/

/-- ENTERING CommandTimeout: the one slot takes it only when empty (R217, R243, R245). -/
def State.raiseTimeout (s : State) : State :=
  match s.errst with
  | .noError => { s with errst := .commandTimeout }
  | .poweredOn | .commandTimeout => s

/-- THE RETURN FROM A GATING ERROR: `CMD` equals the sentinel, `ERRST <- None` (R186, R256). -/
def State.acknowledge (s : State) : State :=
  if s.cmd = Config.sentinel then { s with errst := .noError } else s

/-! The snapshot, the motor, the elapsed record. -/

/-- `SNAP_POS <- POS`, `SNAP_ERR <- ERRCNT`, as one pair, inside the critical section (R166); outside it the precondition fails
(log 12). -/
def snapshotPair (s : State) (after : State → Out) : Out :=
  if s.imask then after { s with snapPos := s.pos, snapErr := s.errcnt } else .fault .snapshotUnmasked

/-- `setDirection` and `setDutyCycle` (R44, R45). -/
def State.drive (s : State) (dir : Direction) (duty : Byte) : State := { s with dir := dir, duty := duty }

/-- APPLY on the stored command: the direction always, the duty gated (R180 to R182). -/
def State.applyCommand (s : State) : State :=
  s.drive (directionOf (reverseFlag s.cmd)) (gatedDuty s (magnitude s.cmd))

/-- FORCE_ZERO (R187): the direction is not touched. -/
def State.forceZero (s : State) : State := { s with duty := 0#8 }

/-- `ELAPSED <- v` (R214, R217). -/
def State.record (s : State) (v : Byte) : State := { s with elapsed := v }

/-- `CMD <- v` (R213, R218). -/
def State.storeCommand (s : State) (v : Byte) : State := { s with cmd := v }

/-! The transport's services. -/

/-- The acceptance of a byte by the transport (R41). -/
def State.sent (s : State) (b : Byte) : State := { s with txlog := s.txlog ++ [b] }

/-- `sendByte(b); SEQ <- q`, enabled when the transport is ready (R41, R207). -/
def transmit (b : Byte) (q : SeqState) (s : State) : Out := when s.txReady s fun s => .next ((s.sent b).goto q)

/-- `readByte()` (R43): the head of `RXQ` is removed; an empty queue gives the call no step (log 13). -/
def readByte (s : State) (use : Byte → State → Out) : Out :=
  match s.rxq with
  | [] => .refused .readByteEmpty
  | b :: rest => use b { s with rxq := rest }

/-- ENV appends a byte to `RXQ`, up to `RX_DEPTH` (R39, log 14). -/
def receive (b : Byte) (s : State) : Out :=
  if s.rxq.length < s.cfg.rxDepth then .next { s with rxq := s.rxq ++ [b] } else .refused .rxOverrun

/-- ENV moves the lines; a change requests the edge interrupt (R160). -/
def State.moveLines (s : State) (smp : Sample) : State :=
  let t := if smp = s.enc then s else s.request .edge
  { t with enc := smp }

/-- The tie of `S4_AWAIT`: which branch is a free value, drawn (R212, log 8). -/
def State.tieBranch (s : State) : SeqState := if Config.freeAwaitChoice s.freeIdx then .s5aStore else .s5bMark

/-- A free value has been drawn. -/
def State.drawn (s : State) : State := { s with freeIdx := s.freeIdx + 1 }

end Sys2Proof.Machine
end

