-- ==== Sys2Proof/Machine/Clock.lean ====
section
/-! DEFINITION. Machine/Clock.lean: the Millisecond Clock (spec/41_clock.md). -/

namespace Sys2Proof.Machine

/-- `TICK` (R150): always enabled; a tick while one is pending is lost. -/
def execTick (s : State) : Out := .next (s.request .tick)

/-- `CLK` (R151). -/
def execClk (s : State) : Out := takeInterrupt .tick State.countTick s

/-- `MS_READ` (R152): the value is `State.readMs`; reading changes nothing (R57). -/
def execMsRead (s : State) : Out := .next s

/-- `MS_CLEAR` (R153). -/
def execMsClear (s : State) : Out := .next s.clearMs

end Sys2Proof.Machine
end

