-- ==== Sys2Proof/Machine/Decoder.lean ====
section
/-! DEFINITION. Machine/Decoder.lean: the Quadrature Decoder (spec/40_decoder.md): the decode step and the sixteen codes of each
table. -/

namespace Sys2Proof.Machine

/-- `DEC` (R100): the code is formed from the sample taken now, `TBL` is read, its action is applied. -/
def execDec (s : State) : Out := takeInterrupt .edge (fun s => s.count (tbl s.cfg s.code)) s

/-- `Q0` (R104). -/
def execQ0 (s : State) : Out := codeStep .quarter 0#4 .nop s

/-- `Q1` (R105). -/
def execQ1 (s : State) : Out := codeStep .quarter 1#4 .inc s

/-- `Q2` (R106). -/
def execQ2 (s : State) : Out := codeStep .quarter 2#4 .dec1 s

/-- `Q3` (R107). -/
def execQ3 (s : State) : Out := codeStep .quarter 3#4 .amb s

/-- `Q4` (R108). -/
def execQ4 (s : State) : Out := codeStep .quarter 4#4 .dec1 s

/-- `Q5` (R109). -/
def execQ5 (s : State) : Out := codeStep .quarter 5#4 .nop s

/-- `Q6` (R110). -/
def execQ6 (s : State) : Out := codeStep .quarter 6#4 .amb s

/-- `Q7` (R111). -/
def execQ7 (s : State) : Out := codeStep .quarter 7#4 .inc s

/-- `Q8` (R112). -/
def execQ8 (s : State) : Out := codeStep .quarter 8#4 .inc s

/-- `Q9` (R113). -/
def execQ9 (s : State) : Out := codeStep .quarter 9#4 .amb s

/-- `Q10` (R114). -/
def execQ10 (s : State) : Out := codeStep .quarter 10#4 .nop s

/-- `Q11` (R115). -/
def execQ11 (s : State) : Out := codeStep .quarter 11#4 .dec1 s

/-- `Q12` (R116). -/
def execQ12 (s : State) : Out := codeStep .quarter 12#4 .amb s

/-- `Q13` (R117). -/
def execQ13 (s : State) : Out := codeStep .quarter 13#4 .dec1 s

/-- `Q14` (R118). -/
def execQ14 (s : State) : Out := codeStep .quarter 14#4 .inc s

/-- `Q15` (R119). -/
def execQ15 (s : State) : Out := codeStep .quarter 15#4 .nop s

/-- `C0` (R121). -/
def execC0 (s : State) : Out := codeStep .coarse 0#4 .nop s

/-- `C1` (R122). -/
def execC1 (s : State) : Out := codeStep .coarse 1#4 .inc s

/-- `C2` (R123). -/
def execC2 (s : State) : Out := codeStep .coarse 2#4 .dec1 s

/-- `C3` (R124). -/
def execC3 (s : State) : Out := codeStep .coarse 3#4 .amb s

/-- `C4` (R125). -/
def execC4 (s : State) : Out := codeStep .coarse 4#4 .nop s

/-- `C5` (R126). -/
def execC5 (s : State) : Out := codeStep .coarse 5#4 .nop s

/-- `C6` (R127). -/
def execC6 (s : State) : Out := codeStep .coarse 6#4 .amb s

/-- `C7` (R128). -/
def execC7 (s : State) : Out := codeStep .coarse 7#4 .nop s

/-- `C8` (R129). -/
def execC8 (s : State) : Out := codeStep .coarse 8#4 .nop s

/-- `C9` (R130). -/
def execC9 (s : State) : Out := codeStep .coarse 9#4 .amb s

/-- `C10` (R131). -/
def execC10 (s : State) : Out := codeStep .coarse 10#4 .nop s

/-- `C11` (R132). -/
def execC11 (s : State) : Out := codeStep .coarse 11#4 .nop s

/-- `C12` (R133). -/
def execC12 (s : State) : Out := codeStep .coarse 12#4 .amb s

/-- `C13` (R134). -/
def execC13 (s : State) : Out := codeStep .coarse 13#4 .nop s

/-- `C14` (R135). -/
def execC14 (s : State) : Out := codeStep .coarse 14#4 .nop s

/-- `C15` (R136). -/
def execC15 (s : State) : Out := codeStep .coarse 15#4 .nop s

end Sys2Proof.Machine
end

