-- ==== Sys2Proof/Machine/Motor.lean ====
section
/-! DEFINITION. Machine/Motor.lean: the Motor Driver (spec/43_motor_driver.md): its three operations and the three classes of command
byte. A class acts when `CMD` holds its byte (R180; log 17). -/

namespace Sys2Proof.Machine

/-- `APPLY` (R180 to R182). -/
def execApply (s : State) : Out := .next s.applyCommand

/-- `ACKCHK` (R186). -/
def execAckchk (s : State) : Out := .next s.acknowledge

/-- `FORCE_ZERO` (R187). -/
def execForceZero (s : State) : Out := .next s.forceZero

/-- `FWD m` (R183): forward, the gated duty; ACKCHK does nothing for it. -/
def execFwd (m : Seven) (s : State) : Out :=
  when (decide (s.cmd = m.setWidth 8)) s fun s => .next (s.drive .forward (gatedDuty s m))

/-- `REV m` (R184): reverse, the gated duty; ACKCHK does nothing for it. -/
def execRev (m : Seven) (s : State) : Out :=
  when (decide (s.cmd = (m.setWidth 8 ||| 0x80#8))) s fun s => .next (s.drive .reverse (gatedDuty s m))

/-- `ACK` (R185): reverse, duty 0, then `ERRST <- None`. -/
def execAck (s : State) : Out :=
  when (decide (s.cmd = Config.sentinel)) s fun s => .next { s.drive .reverse 0#8 with errst := .noError }

end Sys2Proof.Machine
end

