-- ==== Sys2Proof/Machine/Sequencer.lean ====
section
/-! DEFINITION. Machine/Sequencer.lean: the Control-Loop Sequencer's nineteen micro-states (spec/44_sequencer.md). Each is taken when
`SEQ` holds it. -/

namespace Sys2Proof.Machine

/-- `S1_ENTER` (R201). -/
def execS1Enter (s : State) : Out := atState .s1Enter s fun s => .next (s.maskOn.goto .s1Read)

/-- `S1_READ` (R202). -/
def execS1Read (s : State) : Out := atState .s1Read s fun s => snapshotPair s fun s => .next (s.goto .s1Exit)

/-- `S1_EXIT` (R203). -/
def execS1Exit (s : State) : Out := atState .s1Exit s fun s => .next (s.maskOff.goto .s1Apply)

/-- `S1_APPLY` (R204). -/
def execS1Apply (s : State) : Out := atState .s1Apply s fun s => .next (s.applyCommand.goto .s2Ack)

/-- `S2_ACK` (R206). -/
def execS2Ack (s : State) : Out := atState .s2Ack s fun s => .next (s.acknowledge.goto .s3Tx0)

/-- `S3_TX0` (R207). -/
def execS3Tx0 (s : State) : Out := atState .s3Tx0 s fun s => transmit s.positionLow .s3Tx1 s

/-- `S3_TX1` (R208). -/
def execS3Tx1 (s : State) : Out := atState .s3Tx1 s fun s => transmit s.positionHigh .s3Tx2 s

/-- `S3_TX2` (R209). -/
def execS3Tx2 (s : State) : Out := atState .s3Tx2 s fun s => transmit s.snapErr .s3Tx3 s

/-- `S3_TX3` (R210). -/
def execS3Tx3 (s : State) : Out := atState .s3Tx3 s fun s => transmit s.status .s4Await s

/-- `S4_AWAIT` (R211, R212): one poll reads `byteAvailable()` and `MS` once each; a tie takes either branch. -/
def execS4Await (s : State) : Out :=
  atState .s4Await s fun s =>
    match s.byteAvailable, s.timedOut with
    | true, false => .next (s.goto .s5aStore)
    | false, true => .next (s.goto .s5bMark)
    | true, true => .next (s.goto s.tieBranch).drawn
    | false, false => .next s

/-- `S5A_STORE` (R213). -/
def execS5aStore (s : State) : Out :=
  atState .s5aStore s fun s => readByte s fun b s => .next ((s.storeCommand b).goto .s5aRec)

/-- `S5A_REC` (R214). -/
def execS5aRec (s : State) : Out := atState .s5aRec s fun s => .next ((s.record s.readMs).goto .s5aWait)

/-- `S5A_WAIT` (R215). -/
def execS5aWait (s : State) : Out :=
  atState .s5aWait s fun s => when s.cadenceDone s fun s => .next (s.goto .s5aClear)

/-- `S5A_CLEAR` (R216). -/
def execS5aClear (s : State) : Out := atState .s5aClear s fun s => .next (s.clearMs.goto .s1Enter)

/-- `S5B_MARK` (R217): the timeout is recorded, `ELAPSED <- 0xFF`, the duty is forced to 0. -/
def execS5bMark (s : State) : Out :=
  atState .s5bMark s fun s => .next ((s.raiseTimeout.record s.cfg.elapsedTimeout).forceZero.goto .s5bDrain)

/-- `S5B_DRAIN` (R218): waits for a byte, discards it, `CMD <- 0`. -/
def execS5bDrain (s : State) : Out :=
  atState .s5bDrain s fun s => when s.byteAvailable s fun s =>
    readByte s fun _ s => .next ((s.storeCommand 0#8).goto .s5bRef)

/-- `S5B_REF` (R219). -/
def execS5bRef (s : State) : Out := atState .s5bRef s fun s => .next ({ s with t0 := s.readMs }.goto .s5bWait)

/-- `S5B_WAIT` (R220). -/
def execS5bWait (s : State) : Out :=
  atState .s5bWait s fun s => when (decide (s.readMs ≠ s.t0)) s fun s => .next (s.goto .s5bClear)

/-- `S5B_CLEAR` (R221). -/
def execS5bClear (s : State) : Out := atState .s5bClear s fun s => .next (s.clearMs.goto .s1Enter)

end Sys2Proof.Machine
end

