-- ==== Sys2Proof/Machine/Snapshot.lean ====
section
/-! DEFINITION. Machine/Snapshot.lean: line changes, the critical section, the atomic snapshot (spec/42_snapshot_sync.md), and the
host's byte (R39). -/

namespace Sys2Proof.Machine

/-- `ENC s` (R160): always enabled. -/
def execEnc (smp : Sample) (s : State) : Out := .next (s.moveLines smp)

/-- `RX b` (R39). -/
def execRx (b : Byte) (s : State) : Out := receive b s

/-- `CS_ENTER` (R165). -/
def execCsEnter (s : State) : Out := .next s.maskOn

/-- `SNAP_READ` (R166). -/
def execSnapRead (s : State) : Out := snapshotPair s .next

/-- `CS_EXIT` (R167). -/
def execCsExit (s : State) : Out := .next s.maskOff

end Sys2Proof.Machine
end

