-- ==== Sys2Proof/Machine/Wire.lean ====
section
/-! DEFINITION. Machine/Wire.lean: what the device sends (R81, R82, R205). The status byte leaves in `S3_TX3` and the frame in
`S3_TX0` to `S3_TX3`; each row is a `TX` event (R87, R88) that asserts the bytes it sends (log 16). -/

namespace Sys2Proof.Machine

/-- The `TX b` of `S3_TX3` (R87, R210), for a byte of the form the row names. -/
def sendStatus (form : Bool) (s : State) : Out :=
  atState .s3Tx3 s fun s => when form s fun s => transmit s.status .s4Await s

/-- `STATUS.ELAPSED` with value `v` (R205): `ERRST` is None and the status byte is `v`, bit 7 clear. -/
def execStatusElapsed (v : Seven) (s : State) : Out :=
  sendStatus (decide (s.errst = .noError) && decide (s.elapsed = v.setWidth 8)) s

/-- `STATUS.POWERED_ON` (R205). -/
def execStatusPoweredOn (s : State) : Out := sendStatus (decide (s.errst = .poweredOn)) s

/-- `STATUS.COMMAND_TIMEOUT` (R205). -/
def execStatusCommandTimeout (s : State) : Out := sendStatus (decide (s.errst = .commandTimeout)) s

/-- `FRAME b0 b1 b2 b3` (R82, R88): the four sends one after another, from `S3_TX0` to `S4_AWAIT`. -/
def execFrame (lo hi err status : Byte) (s : State) : Out :=
  atState .s3Tx0 s fun s => when (decide (s.frameBytes = [lo, hi, err, status]) && s.txReady) s fun s =>
    .next (((((s.sent lo).sent hi).sent err).sent status).goto .s4Await)

end Sys2Proof.Machine
end

