-- ==== Sys2Proof/Machine/Dispatch.lean ====
section
/-! DEFINITION. Machine/Dispatch.lean: one arm per row of the opcode table. -/

namespace Sys2Proof.Machine

def exec (i : Instr) (s : State) : Host.Outcome State Fault Refusal :=
  match i with
  | .q0 => Sys2Proof.Machine.execQ0 s
  | .q1 => Sys2Proof.Machine.execQ1 s
  | .q2 => Sys2Proof.Machine.execQ2 s
  | .q3 => Sys2Proof.Machine.execQ3 s
  | .q4 => Sys2Proof.Machine.execQ4 s
  | .q5 => Sys2Proof.Machine.execQ5 s
  | .q6 => Sys2Proof.Machine.execQ6 s
  | .q7 => Sys2Proof.Machine.execQ7 s
  | .q8 => Sys2Proof.Machine.execQ8 s
  | .q9 => Sys2Proof.Machine.execQ9 s
  | .q10 => Sys2Proof.Machine.execQ10 s
  | .q11 => Sys2Proof.Machine.execQ11 s
  | .q12 => Sys2Proof.Machine.execQ12 s
  | .q13 => Sys2Proof.Machine.execQ13 s
  | .q14 => Sys2Proof.Machine.execQ14 s
  | .q15 => Sys2Proof.Machine.execQ15 s
  | .c0 => Sys2Proof.Machine.execC0 s
  | .c1 => Sys2Proof.Machine.execC1 s
  | .c2 => Sys2Proof.Machine.execC2 s
  | .c3 => Sys2Proof.Machine.execC3 s
  | .c4 => Sys2Proof.Machine.execC4 s
  | .c5 => Sys2Proof.Machine.execC5 s
  | .c6 => Sys2Proof.Machine.execC6 s
  | .c7 => Sys2Proof.Machine.execC7 s
  | .c8 => Sys2Proof.Machine.execC8 s
  | .c9 => Sys2Proof.Machine.execC9 s
  | .c10 => Sys2Proof.Machine.execC10 s
  | .c11 => Sys2Proof.Machine.execC11 s
  | .c12 => Sys2Proof.Machine.execC12 s
  | .c13 => Sys2Proof.Machine.execC13 s
  | .c14 => Sys2Proof.Machine.execC14 s
  | .c15 => Sys2Proof.Machine.execC15 s
  | .ack => Sys2Proof.Machine.execAck s
  | .fwd m => Sys2Proof.Machine.execFwd m s
  | .rev m => Sys2Proof.Machine.execRev m s
  | .statusElapsed v => Sys2Proof.Machine.execStatusElapsed v s
  | .statusPoweredOn => Sys2Proof.Machine.execStatusPoweredOn s
  | .statusCommandTimeout => Sys2Proof.Machine.execStatusCommandTimeout s
  | .frame lo hi err status => Sys2Proof.Machine.execFrame lo hi err status s
  | .dec => Sys2Proof.Machine.execDec s
  | .tick => Sys2Proof.Machine.execTick s
  | .clk => Sys2Proof.Machine.execClk s
  | .enc smp => Sys2Proof.Machine.execEnc smp s
  | .rx b => Sys2Proof.Machine.execRx b s
  | .csEnter => Sys2Proof.Machine.execCsEnter s
  | .snapRead => Sys2Proof.Machine.execSnapRead s
  | .csExit => Sys2Proof.Machine.execCsExit s
  | .apply => Sys2Proof.Machine.execApply s
  | .ackchk => Sys2Proof.Machine.execAckchk s
  | .forceZero => Sys2Proof.Machine.execForceZero s
  | .msRead => Sys2Proof.Machine.execMsRead s
  | .msClear => Sys2Proof.Machine.execMsClear s
  | .s1Enter => Sys2Proof.Machine.execS1Enter s
  | .s1Read => Sys2Proof.Machine.execS1Read s
  | .s1Exit => Sys2Proof.Machine.execS1Exit s
  | .s1Apply => Sys2Proof.Machine.execS1Apply s
  | .s2Ack => Sys2Proof.Machine.execS2Ack s
  | .s3Tx0 => Sys2Proof.Machine.execS3Tx0 s
  | .s3Tx1 => Sys2Proof.Machine.execS3Tx1 s
  | .s3Tx2 => Sys2Proof.Machine.execS3Tx2 s
  | .s3Tx3 => Sys2Proof.Machine.execS3Tx3 s
  | .s4Await => Sys2Proof.Machine.execS4Await s
  | .s5aStore => Sys2Proof.Machine.execS5aStore s
  | .s5aRec => Sys2Proof.Machine.execS5aRec s
  | .s5aWait => Sys2Proof.Machine.execS5aWait s
  | .s5aClear => Sys2Proof.Machine.execS5aClear s
  | .s5bMark => Sys2Proof.Machine.execS5bMark s
  | .s5bDrain => Sys2Proof.Machine.execS5bDrain s
  | .s5bRef => Sys2Proof.Machine.execS5bRef s
  | .s5bWait => Sys2Proof.Machine.execS5bWait s
  | .s5bClear => Sys2Proof.Machine.execS5bClear s

end Sys2Proof.Machine
end

