-- ==== Sys2Proof/Machine/Fetch.lean ====
section
/-! DEFINITION. Machine/Fetch.lean: which instruction an event stands for, and which event comes next (R33, R34, R87, R100). `SEQ` is
the only program counter: a sequencer event fetches the row of the micro-state it holds. -/

namespace Sys2Proof.Machine

/-- The row of a micro-state (R200). -/
def seqRow (q : SeqState) : Instr :=
  match q with
  | .s1Enter => .s1Enter
  | .s1Read => .s1Read
  | .s1Exit => .s1Exit
  | .s1Apply => .s1Apply
  | .s2Ack => .s2Ack
  | .s3Tx0 => .s3Tx0
  | .s3Tx1 => .s3Tx1
  | .s3Tx2 => .s3Tx2
  | .s3Tx3 => .s3Tx3
  | .s4Await => .s4Await
  | .s5aStore => .s5aStore
  | .s5aRec => .s5aRec
  | .s5aWait => .s5aWait
  | .s5aClear => .s5aClear
  | .s5bMark => .s5bMark
  | .s5bDrain => .s5bDrain
  | .s5bRef => .s5bRef
  | .s5bWait => .s5bWait
  | .s5bClear => .s5bClear

/-- The byte the next `sendByte` would send, in a transmit state (R207 to R210). -/
def State.txByte (s : State) : Option Byte :=
  match s.seq with
  | .s3Tx0 => some s.positionLow
  | .s3Tx1 => some s.positionHigh
  | .s3Tx2 => some s.snapErr
  | .s3Tx3 => some s.status
  | _ => none

/-- What an event asks of the machine. -/
inductive Fetched where
  /-- A row of the table is executed. -/
  | run (i : Instr)
  /-- ENV sets the transport's readiness (R41). -/
  | setReady (r : Bool)
  /-- The event is not enabled: no agent moves. -/
  | idle
  /-- A word that no format admits, an ill-formed row, a status byte that is never sent. -/
  | undecodable (e : DecodeError)
  deriving DecidableEq, Repr

/-- The row an agent's step runs (R34). -/
def fetchAgent (a : AgentEvent) (s : State) : Fetched :=
  match a with
  | .enc smp => .run (.enc smp)
  | .tick => .run .tick
  | .rx b => .run (.rx b)
  | .ready r => .setReady r
  | .dec => .run .dec
  | .clk => .run .clk
  | .seq => .run (seqRow s.seq)

/-- `TX b` (R87): the sequencer's step where that step sends `b`. In `S3_TX3` the byte is a status byte, and one the device never
sends is refused (R86; spec/93 U13). -/
def fetchTx (b : Byte) (s : State) : Fetched :=
  if s.seq = .s3Tx3 ∧ s.cfg.sendsStatus b = false then .undecodable .statusNeverSent
  else if s.txByte = some b then .run (seqRow s.seq)
  else .idle

/-- A decoded word's row. -/
def fetchDecoded (d : Except DecodeError Instr) : Fetched :=
  match d with
  | .ok i => .run i
  | .error err => .undecodable err

/-- The row an event runs (R87). -/
def fetchEvent (e : Event) (s : State) : Fetched :=
  match e with
  | .agent a => fetchAgent a s
  | .tx b => fetchTx b s
  | .row i => if i.wf s.cfg then .run i else .undecodable .illFormed
  | .word bytes => fetchDecoded (decodeWord s.cfg bytes)
  | .wordIn f bytes => fetchDecoded (decode s.cfg f bytes)

/-- The next event and the state it is taken in: the trace's head, or past the trace's end a free value (log 1). -/
def nextEvent (s : State) : Event × State :=
  match s.trace with
  | e :: rest => (e, { s with trace := rest })
  | [] => (.agent (Config.freeSchedule s.freeIdx), s.drawn)

/-- The state in which an instruction is the one the registers select: a code's samples and its request; a command byte in `CMD`;
a status byte's or a frame's registers and the micro-state that sends it (log 11). -/
def State.select (s : State) (i : Instr) : State :=
  match encode s.cfg i with
  | some (.quarterCode, [b]) =>
    { s with enc := newOf (b.setWidth 4), prev := prevOf (b.setWidth 4), dpend := true, imask := false,
             cfg := { s.cfg with countMode := .quarter } }
  | some (.coarseCode, [b]) =>
    { s with enc := newOf (b.setWidth 4), prev := prevOf (b.setWidth 4), dpend := true, imask := false,
             cfg := { s.cfg with countMode := .coarse } }
  | some (.command, [b]) => { s with cmd := b }
  | some (.status, [b]) =>
    match i with
    | .statusPoweredOn => { s with seq := .s3Tx3, txReady := true, errst := .poweredOn }
    | .statusCommandTimeout => { s with seq := .s3Tx3, txReady := true, errst := .commandTimeout }
    | _ => { s with seq := .s3Tx3, txReady := true, errst := .noError, elapsed := b }
  | some (.frame, [lo, hi, err, status]) =>
    { s with seq := .s3Tx0, txReady := true, snapPos := hostPosition lo hi, snapErr := err, errst := .noError,
             elapsed := status }
  | _ => s

/-- A build whose words are the opcode table's: the three parameters that words depend on, at the default (logs 10 and 11). -/
def tableBuild (c : Config) : Config :=
  { c with countMode := Config.default.countMode, codePoweredOn := Config.default.codePoweredOn,
           codeCommandTimeout := Config.default.codeCommandTimeout }

/-- A word placed as the next event, with the registers that select it (log 11). -/
def State.placeWord (s : State) (nbits w : Nat) : State :=
  match decodeTableWord nbits w with
  | some i => { ({ s with cfg := tableBuild s.cfg }).select i with trace := .word (layoutWord nbits w) :: s.trace }
  | none => { s with trace := .word (layoutWord nbits w) :: s.trace }

end Sys2Proof.Machine
end

