-- ==== Sys2Proof/Machine/Step.lean ====
section
/-! DEFINITION. Machine/Step.lean: one step of the machine: the next event is taken and the row it stands for is executed (R34, R59). -/

namespace Sys2Proof.Machine

/-- One event's step. -/
def runEvent (e : Event) (s : State) : Out :=
  match fetchEvent e s with
  | .run i => exec i s
  | .setReady r => .next { s with txReady := r }
  | .idle => .next s
  | .undecodable err => .refused (.undecodable err)

/-- One step of the machine. -/
def step (s : State) : Host.Outcome State Fault Refusal := runEvent (nextEvent s).1 (nextEvent s).2

/-- The state whose very next step runs the instruction of a table word (log 11). -/
def State.withFetchWord (s : State) (nbits w : Nat) : State := s.placeWord nbits w

end Sys2Proof.Machine
end

