-- ==== Sys2Proof/Machine/Trace.lean ====
section
/-! DEFINITION. Machine/Trace.lean: event traces (R87) and the pseudo-events' expansions (R88). -/

namespace Sys2Proof.Machine

/-- The events of a trace, one after another, up to the first stop. -/
def runTrace (es : List Event) (s : State) : Out :=
  match es with
  | [] => .next s
  | e :: rest =>
    match runEvent e s with
    | .next t => runTrace rest t
    | .fault r => .fault r
    | .refused r => .refused r

/-- Agents' steps as a trace. -/
def agents (as : List AgentEvent) : List Event := as.map Event.agent

/-- `SEQ <state>`: the sequencer's step, its micro-state written after it. -/
def seqAt (q : SeqState) : Event := .row (seqRow q)

/-- `EDGE s`: `ENC s ; DEC`. -/
def edge (smp : Sample) : List Event := agents [.enc smp, .dec]

/-- `MSEC`: `TICK ; CLK`. -/
def msec : List Event := agents [.tick, .clk]

/-- A bracket repeated, `n * ( e1 ; e2 ; ... )`. -/
def repeated (n : Nat) (es : List Event) : List Event :=
  match n with
  | 0 => []
  | n + 1 => es ++ repeated n es

/-- `MSEC n`. -/
def msecs (n : Nat) : List Event := repeated n msec

/-- `n` times `PSTEP` from lines at `smp`: each `EDGE s'` with `s'` the next sample of 00→10→11→01→00. -/
def psteps (n : Nat) (smp : Sample) : List Event :=
  match n with
  | 0 => []
  | n + 1 => edge (nextP smp) ++ psteps n (nextP smp)

/-- `n` times `NSTEP` from lines at `smp`. -/
def nsteps (n : Nat) (smp : Sample) : List Event :=
  match n with
  | 0 => []
  | n + 1 => edge (nextN smp) ++ nsteps n (nextN smp)

/-- `n` line changes in the direction `next` with no `DEC` between them: with one `DEC` after them, all but the last are edges the
decoder misses (R140, R292). -/
def lineChanges (next : Sample → Sample) (n : Nat) (smp : Sample) : List Event :=
  match n with
  | 0 => []
  | n + 1 => .agent (.enc (next smp)) :: lineChanges next n (next smp)

/-- `SNAP`: `SEQ S1_ENTER ; SEQ S1_READ ; SEQ S1_EXIT` (R168). -/
def snap : List Event := [seqAt .s1Enter, seqAt .s1Read, seqAt .s1Exit]

/-- `FRAME b0 b1 b2 b3`: `TX b0 ; TX b1 ; TX b2 ; TX b3`. -/
def frameEvents (b0 b1 b2 b3 : Byte) : List Event := [.tx b0, .tx b1, .tx b2, .tx b3]

/-- `RUN to q`: `SEQ` repeated until `SEQ` = `q`; `none` where a step on the way does not move, or stops, or `fuel` runs out. -/
def runTo (fuel : Nat) (q : SeqState) (s : State) : Option State :=
  if s.seq = q then some s
  else
    match fuel with
    | 0 => none
    | fuel + 1 =>
      match runEvent (.agent .seq) s with
      | .next t => if t.seq = s.seq then none else runTo fuel q t
      | _ => none

end Sys2Proof.Machine
end

