-- ==== Sys2Proof/Safety.lean ====
section
/-! DEFINITION. Safety.lean: the terms claims use: which trace events are agents' steps, when a step is enabled, the named premises
of the spec (`IRQ_PROMPT`, `POLL_FAST`, weak fairness), runs, and the invariant of legal runs. -/

namespace Sys2Proof.Machine

/-- The rows that are steps of an agent (R34, R87). The others are parts of sequencer steps and never happen by themselves
(log 15). -/
def isAgentRow (i : Instr) : Bool :=
  match i with
  | .ack | .fwd _ | .rev _ => false
  | .csEnter | .snapRead | .csExit | .apply | .ackchk | .forceZero | .msRead | .msClear => false
  | _ => true

/-- A trace event that is a step of an agent of the build `c`, or that is refused. -/
def isAgentEvent (c : Config) (e : Event) : Bool :=
  match e with
  | .agent _ | .tx _ => true
  | .row i => isAgentRow i
  | .word bytes =>
    match decodeWord c bytes with
    | .ok i => isAgentRow i
    | .error _ => true
  | .wordIn f bytes =>
    match decode c f bytes with
    | .ok i => isAgentRow i
    | .error _ => true

/-- Every event to come is an agent's step. -/
def State.AgentsOnly (s : State) : Prop := ∀ e ∈ s.trace, isAgentEvent s.cfg e = true

/-- When an agent's step is enabled (R87's "enabled"; R39, R150, R160, R161, R207 to R210, R213, R218). A poll that does not move
is enabled. -/
def agentEnabled (a : AgentEvent) (s : State) : Bool :=
  match a with
  | .enc _ | .tick | .ready _ => true
  | .rx _ => decide (s.rxq.length < s.cfg.rxDepth)
  | .dec => s.irqEnabled .edge
  | .clk => s.irqEnabled .tick
  | .seq =>
    match s.seq with
    | .s3Tx0 | .s3Tx1 | .s3Tx2 | .s3Tx3 => s.txReady
    | .s5aStore | .s5bDrain => s.byteAvailable
    | _ => true

/-- `IRQ_PROMPT` (R163), a premise a claim may take: an enabled handler steps before the sequencer does. -/
def IrqPrompt (a : AgentEvent) (s : State) : Prop :=
  a = .seq → s.irqEnabled .edge = false ∧ s.irqEnabled .tick = false

/-- When a row is enabled (R87). A code row is a DEC step that asserts its code, a micro-state's row a SEQ step that asserts the
state, a status row and a frame are sends that assert their bytes (log 16). The rows that are no agent's step never are. -/
def rowEnabled (i : Instr) (s : State) : Bool :=
  match i with
  | .q0 | .q1 | .q2 | .q3 | .q4 | .q5 | .q6 | .q7 | .q8 | .q9 | .q10 | .q11 | .q12 | .q13 | .q14 | .q15
  | .c0 | .c1 | .c2 | .c3 | .c4 | .c5 | .c6 | .c7 | .c8 | .c9 | .c10 | .c11 | .c12 | .c13 | .c14 | .c15 =>
    decide (i = codeRow s.cfg.countMode s.code) && agentEnabled .dec s
  | .ack | .fwd _ | .rev _ => false
  | .statusElapsed v =>
    decide (s.seq = .s3Tx3) && (decide (s.errst = .noError) && decide (s.elapsed = v.setWidth 8)) && agentEnabled .seq s
  | .statusPoweredOn => decide (s.seq = .s3Tx3) && decide (s.errst = .poweredOn) && agentEnabled .seq s
  | .statusCommandTimeout => decide (s.seq = .s3Tx3) && decide (s.errst = .commandTimeout) && agentEnabled .seq s
  | .frame lo hi err status =>
    decide (s.seq = .s3Tx0) && decide (s.frameBytes = [lo, hi, err, status]) && agentEnabled .seq s
  | .dec => agentEnabled .dec s
  | .clk => agentEnabled .clk s
  | .tick => agentEnabled .tick s
  | .enc smp => agentEnabled (.enc smp) s
  | .rx b => agentEnabled (.rx b) s
  | .csEnter | .snapRead | .csExit | .apply | .ackchk | .forceZero | .msRead | .msClear => false
  | .s1Enter | .s1Read | .s1Exit | .s1Apply | .s2Ack | .s3Tx0 | .s3Tx1 | .s3Tx2 | .s3Tx3 | .s4Await
  | .s5aStore | .s5aRec | .s5aWait | .s5aClear | .s5bMark | .s5bDrain | .s5bRef | .s5bWait | .s5bClear =>
    decide (i = seqRow s.seq) && agentEnabled .seq s

/-- When an event of a trace is enabled (R87): what it stands for is. A `TX` of another byte, an undecodable word, an ill-formed
row never are. -/
def eventEnabled (e : Event) (s : State) : Bool :=
  match fetchEvent e s with
  | .run i => rowEnabled i s
  | .setReady _ => true
  | .idle | .undecodable _ => false

/-- A LEGAL trace and where it ends (R87): every event is enabled in the state it is taken in; `none` for any other trace. -/
def runLegal (es : List Event) (s : State) : Option State :=
  match es with
  | [] => some s
  | e :: rest =>
    if eventEnabled e s then
      match runEvent e s with
      | .next t => runLegal rest t
      | _ => none
    else none

/-- R87's "legal". -/
def legalTrace (es : List Event) (s : State) : Bool := (runLegal es s).isSome

/-- A CLK step is taken by this event. -/
def isClkStep (e : Event) (s : State) : Bool := decide (fetchEvent e s = .run .clk) && agentEnabled .clk s

/-- A SEQ step is taken by this event; in a waiting state it is a poll. -/
def isSeqStep (e : Event) (s : State) : Bool := decide (fetchEvent e s = .run (seqRow s.seq)) && agentEnabled .seq s

/-- `POLL_FAST` (R223), a premise a claim may take, of a trace from a state: between two consecutive polls of one waiting state at
most one CLK step occurs. `since` is how many have occurred since the last poll of the state `SEQ` holds; `none` where that state
has not been polled since it was entered. -/
def pollFast (since : Option Nat) (es : List Event) (s : State) : Bool :=
  match es with
  | [] => true
  | e :: rest =>
    match runEvent e s with
    | .next t =>
      if isSeqStep e s then
        decide (since.getD 0 ≤ 1) && pollFast (if t.seq = s.seq then some 0 else none) rest t
      else if isClkStep e s then pollFast (since.map (· + 1)) rest t
      else pollFast since rest t
    | _ => true

/-- Every event of the trace is taken while `SEQ` holds `q`. -/
def staysAt (q : SeqState) (es : List Event) (s : State) : Bool :=
  match es with
  | [] => true
  | e :: rest =>
    decide (s.seq = q) &&
      match runEvent e s with
      | .next t => staysAt q rest t
      | _ => true

/-- Weak fairness (R163) of a schedule along the states it visits: a handler that stays enabled is eventually run, and so is the
sequencer. -/
def WeaklyFair (sched : Nat → AgentEvent) (states : Nat → State) : Prop :=
  (∀ n, (∀ m, n ≤ m → (states m).irqEnabled .edge = true) → ∃ m, n ≤ m ∧ sched m = .dec) ∧
  (∀ n, (∀ m, n ≤ m → (states m).irqEnabled .tick = true) → ∃ m, n ≤ m ∧ sched m = .clk) ∧
  (∀ n, (∀ m, n ≤ m → agentEnabled .seq (states m) = true) → ∃ m, n ≤ m ∧ sched m = .seq)

/-- Runs of the machine, each step taken from a state where `P` holds. -/
inductive Runs (P : State → Prop) : State → State → Prop where
  | refl (s : State) : Runs P s s
  | step {s t u : State} : Runs P s t → P t → Machine.step t = .next u → Runs P s u

/-- Bytes of the current frame already sent (R40, R200). -/
def frameIndex (q : SeqState) : Nat :=
  match q with
  | .s3Tx1 => 1
  | .s3Tx2 => 2
  | .s3Tx3 => 3
  | _ => 0

/-- The micro-states after a timeout is marked and before the next cycle (R217 to R221). -/
def inRecovery (q : SeqState) : Bool :=
  match q with
  | .s5bDrain | .s5bRef | .s5bWait | .s5bClear => true
  | _ => false

/-- The invariant of legal runs. -/
structure Inv (s : State) : Prop where
  /-- The parameters meet R7. -/
  cfgWf : s.cfg.wf = true
  /-- The trace holds agents' steps only (log 15). -/
  agentsOnly : s.AgentsOnly
  /-- The critical section is exactly the two states after `S1_ENTER` (R165, R167, R169). -/
  maskIff : s.imask = true ↔ s.seq = .s1Read ∨ s.seq = .s1Exit
  /-- Error gating (R188): while a gating error is active the duty is 0. -/
  gated : s.errst ≠ .noError → s.duty = 0#8
  /-- The duty is a scaled magnitude (R189). -/
  dutyScaled : ∃ m : Seven, s.duty = scaledDuty s.cfg m
  /-- `RXQ` never holds more than `RX_DEPTH` bytes (R39). -/
  rxBound : s.rxq.length ≤ s.cfg.rxDepth
  /-- In `S5A_STORE` a byte is there (R213). -/
  stored : s.seq = .s5aStore → s.rxq ≠ []
  /-- After a timeout an error is active and `ELAPSED` holds the sentinel (R217). -/
  marked : inRecovery s.seq = true → s.errst ≠ .noError ∧ s.elapsed = s.cfg.elapsedTimeout
  /-- After the drain `CMD` is 0 (R218). -/
  drained : s.seq = .s5bRef ∨ s.seq = .s5bWait ∨ s.seq = .s5bClear → s.cmd = 0#8
  /-- `TXLOG` holds whole frames and the bytes of the current one (R40). -/
  framed : s.txlog.length % 4 = frameIndex s.seq

/-- R205, R214, R217, R224: `ELAPSED` has bit 7 clear, or an error is active that cannot be acknowledged before `S5A_REC` records
`ELAPSED` anew. -/
def ElapsedTells (s : State) : Prop :=
  s.elapsed.getLsbD 7 = false ∨
  (s.errst ≠ .noError ∧ s.seq ≠ .s5aWait ∧ s.seq ≠ .s5aClear ∧
    (s.seq ≠ .s5bDrain → s.seq ≠ .s5aRec → s.cmd = 0#8))

end Sys2Proof.Machine
end

