-- ==== Sys2Proof/Certificates/Slice0/Obligations.lean ====
section
/-! DEFINITION. Obligations.lean: the statements for the provers. A next state is written out as the state it came from with the
fields that change: every field not named is the frame. -/

namespace Sys2Proof.Machine

/-- The state in which the DEC step of a code is enabled: the build, the two samples, the request, the mask (R100, R161). -/
def RowReady (s : State) (mode : CountMode) (new prev : Sample) : Prop :=
  s.cfg.countMode = mode ∧ s.enc = new ∧ s.prev = prev ∧ s.dpend = true ∧ s.imask = false

/-- What a P-step counts: +1 for `FWD_SIGN` = +1, -1 for -1 (R73, R76). -/
def pStepAddend (c : Config) : Pos :=
  match c.fwdSign with
  | .plus => 0x0001#16
  | .minus => 0xFFFF#16

/-- What an N-step counts: the negation (R73, R76). -/
def nStepAddend (c : Config) : Pos :=
  match c.fwdSign with
  | .plus => 0xFFFF#16
  | .minus => 0x0001#16

/-- The "next" column of R200's table. -/
def successors (q : SeqState) : List SeqState :=
  match q with
  | .s1Enter => [.s1Read]
  | .s1Read => [.s1Exit]
  | .s1Exit => [.s1Apply]
  | .s1Apply => [.s2Ack]
  | .s2Ack => [.s3Tx0]
  | .s3Tx0 => [.s3Tx1]
  | .s3Tx1 => [.s3Tx2]
  | .s3Tx2 => [.s3Tx3]
  | .s3Tx3 => [.s4Await]
  | .s4Await => [.s5aStore, .s5bMark]
  | .s5aStore => [.s5aRec]
  | .s5aRec => [.s5aWait]
  | .s5aWait => [.s5aClear]
  | .s5aClear => [.s1Enter]
  | .s5bMark => [.s5bDrain]
  | .s5bDrain => [.s5bRef]
  | .s5bRef => [.s5bWait]
  | .s5bWait => [.s5bClear]
  | .s5bClear => [.s1Enter]

/-- The blocking points of R222. -/
def blockingStates : List SeqState := [.s3Tx0, .s3Tx1, .s3Tx2, .s3Tx3, .s4Await, .s5aWait, .s5bDrain, .s5bWait]

/-- An outcome with the decoder's two counters replaced in its next state. -/
def withCounters (p : Pos) (e : Byte) (o : Out) : Out :=
  match o with
  | .next t => .next { t with pos := p, errcnt := e }
  | .fault r => .fault r
  | .refused r => .refused r

end Sys2Proof.Machine

open Sys2Proof Sys2Proof.Machine

/-! ## The Quadrature Decoder -/

/-- R104, R109, R114, R119: `Q0`, `Q5`, `Q10`, `Q15`. -/
def Obligations.QuarterNoChangeCodesKeepCounters : Prop :=
  ∀ r ∈ [(0b00#2, Instr.q0), (0b01#2, .q5), (0b10#2, .q10), (0b11#2, .q15)],
    quarterRow (r.1 ++ r.1) = r.2 ∧
    ∀ s : State, RowReady s .quarter r.1 r.1 → exec r.2 s = .next { s with prev := r.1, dpend := false }

/-- R105, R111, R112, R118: `Q1`, `Q7`, `Q8`, `Q14`, the P-steps, (new, prev, row). -/
def Obligations.QuarterPStepCodesCountUp : Prop :=
  ∀ r ∈ [(0b00#2, 0b01#2, Instr.q1), (0b01#2, 0b11#2, .q7), (0b10#2, 0b00#2, .q8), (0b11#2, 0b10#2, .q14)],
    quarterRow (r.1 ++ r.2.1) = r.2.2 ∧
    ∀ s : State, RowReady s .quarter r.1 r.2.1 →
      exec r.2.2 s = .next { s with pos := s.pos + pStepAddend s.cfg, prev := r.1, dpend := false }

/-- R106, R108, R115, R117: `Q2`, `Q4`, `Q11`, `Q13`, the N-steps, (new, prev, row). -/
def Obligations.QuarterNStepCodesCountDown : Prop :=
  ∀ r ∈ [(0b00#2, 0b10#2, Instr.q2), (0b01#2, 0b00#2, .q4), (0b10#2, 0b11#2, .q11), (0b11#2, 0b01#2, .q13)],
    quarterRow (r.1 ++ r.2.1) = r.2.2 ∧
    ∀ s : State, RowReady s .quarter r.1 r.2.1 →
      exec r.2.2 s = .next { s with pos := s.pos + nStepAddend s.cfg, prev := r.1, dpend := false }

/-- R107, R110, R113, R116: `Q3`, `Q6`, `Q9`, `Q12`, both lines changed, (new, prev, row). -/
def Obligations.QuarterAmbiguousCodesCountErrors : Prop :=
  ∀ r ∈ [(0b00#2, 0b11#2, Instr.q3), (0b01#2, 0b10#2, .q6), (0b10#2, 0b01#2, .q9), (0b11#2, 0b00#2, .q12)],
    quarterRow (r.1 ++ r.2.1) = r.2.2 ∧
    ∀ s : State, RowReady s .quarter r.1 r.2.1 →
      exec r.2.2 s = .next { s with errcnt := s.errcnt + 1#8, prev := r.1, dpend := false }

/-- R121, R126, R131, R136: `C0`, `C5`, `C10`, `C15`. -/
def Obligations.CoarseNoChangeCodesKeepCounters : Prop :=
  ∀ r ∈ [(0b00#2, Instr.c0), (0b01#2, .c5), (0b10#2, .c10), (0b11#2, .c15)],
    coarseRow (r.1 ++ r.1) = r.2 ∧
    ∀ s : State, RowReady s .coarse r.1 r.1 → exec r.2 s = .next { s with prev := r.1, dpend := false }

/-- R122, R123: `C1` and `C2`, the two codes that complete a cycle at 00. -/
def Obligations.CoarseCycleCompletionsCount : Prop :=
  (coarseRow 0b0001#4 = .c1 ∧ ∀ s : State, RowReady s .coarse 0b00#2 0b01#2 →
    exec .c1 s = .next { s with pos := s.pos + pStepAddend s.cfg, prev := 0b00#2, dpend := false }) ∧
  (coarseRow 0b0010#4 = .c2 ∧ ∀ s : State, RowReady s .coarse 0b00#2 0b10#2 →
    exec .c2 s = .next { s with pos := s.pos + nStepAddend s.cfg, prev := 0b00#2, dpend := false })

/-- R125, R128, R129, R132, R134, R135: `C4`, `C7`, `C8`, `C11`, `C13`, `C14`, collapsed to no-op, (new, prev, row). -/
def Obligations.CoarseCollapsedCodesOnlyAdvancePrev : Prop :=
  ∀ r ∈ [(0b01#2, 0b00#2, Instr.c4), (0b01#2, 0b11#2, .c7), (0b10#2, 0b00#2, .c8), (0b10#2, 0b11#2, .c11),
         (0b11#2, 0b01#2, .c13), (0b11#2, 0b10#2, .c14)],
    coarseRow (r.1 ++ r.2.1) = r.2.2 ∧
    ∀ s : State, RowReady s .coarse r.1 r.2.1 → exec r.2.2 s = .next { s with prev := r.1, dpend := false }

/-- R124, R127, R130, R133 (the spec's decision D12): `C3`, `C6`, `C9`, `C12`, (new, prev, row). -/
def Obligations.CoarseAmbiguousCodesCountErrors : Prop :=
  ∀ r ∈ [(0b00#2, 0b11#2, Instr.c3), (0b01#2, 0b10#2, .c6), (0b10#2, 0b01#2, .c9), (0b11#2, 0b00#2, .c12)],
    coarseRow (r.1 ++ r.2.1) = r.2.2 ∧
    ∀ s : State, RowReady s .coarse r.1 r.2.1 →
      exec r.2.2 s = .next { s with errcnt := s.errcnt + 1#8, prev := r.1, dpend := false }

/-- R100: the whole decode step, and that it runs exactly the row its code selects. -/
def Obligations.DecStepAppliesTheTableEntry : Prop :=
  ∀ s : State, s.dpend = true → s.imask = false →
    exec .dec s = .next { s with
      pos := s.pos + Action.addend (tbl s.cfg (s.enc ++ s.prev))
      errcnt := s.errcnt + Action.errAddend (tbl s.cfg (s.enc ++ s.prev))
      prev := s.enc
      dpend := false }

/-- The opcode table's note on `DEC`: it selects `Q<code>` or `C<code>` by `{ENC, PREV}` (R100, R103, R120). -/
def Obligations.DecSelectsTheCodesRow : Prop :=
  ∀ s : State, exec .dec s = exec (codeRow s.cfg.countMode (s.enc ++ s.prev)) s

/-- R103, R120: the two tables as lists indexed by code 0..15. -/
def Obligations.DecodeTablesAreListed : Prop :=
  (List.range 16).map (fun n => quarterTable (BitVec.ofNat 4 n)) =
    [.nop, .inc, .dec1, .amb, .dec1, .nop, .amb, .inc, .inc, .amb, .nop, .dec1, .amb, .dec1, .inc, .nop] ∧
  (List.range 16).map (fun n => coarseTable (BitVec.ofNat 4 n)) =
    [.nop, .inc, .dec1, .amb, .nop, .nop, .amb, .nop, .nop, .amb, .nop, .nop, .amb, .nop, .nop, .nop]

/-- R138, both tables and both directions: a cyclic walk with ideal delivery. -/
def Obligations.CyclicWalkCountsOneCycle : Prop :=
  ∀ s : State, s.prev = s.enc → s.imask = false →
    (s.cfg.countMode = .quarter →
      runTrace (psteps 4 s.enc) s =
        .next { s with pos := s.pos + 4#16 * pStepAddend s.cfg, dpend := false } ∧
      runTrace (nsteps 4 s.enc) s =
        .next { s with pos := s.pos + 4#16 * nStepAddend s.cfg, dpend := false }) ∧
    (s.cfg.countMode = .coarse →
      runTrace (psteps 4 s.enc) s = .next { s with pos := s.pos + pStepAddend s.cfg, dpend := false } ∧
      runTrace (nsteps 4 s.enc) s = .next { s with pos := s.pos + nStepAddend s.cfg, dpend := false })

/-- R139: a double-bit transition, in both tables. For the coarse table it rests on the spec's decision D12 (log 21). -/
def Obligations.DoubleBitTransitionCountsOneError : Prop :=
  ∀ s : State, s.imask = false →
    runTrace (edge (s.prev ^^^ 0b11#2)) { s with enc := s.prev } =
      .next { s with enc := s.prev ^^^ 0b11#2, prev := s.prev ^^^ 0b11#2, errcnt := s.errcnt + 1#8, dpend := false }

/-- R140, R292, in the quarter build, both directions: after `n` line changes of a steady rotation with one `DEC` behind them all
(`n - 1` missed edges) the decoder sees `n` modulo 4 and reads 3 as a step back. It rests on the spec's decisions D13 and D14
(log 22): the request is one deep and the sample is taken when DEC runs. -/
def Obligations.DecoderSeesMissedEdgesModuloFour : Prop :=
  ∀ (n : Nat) (s : State), s.prev = s.enc → s.imask = false → s.dpend = true → s.cfg.countMode = .quarter →
    (∃ t, runTrace (lineChanges nextP n s.enc ++ [.agent .dec]) s = .next t ∧ t.prev = t.enc ∧ t.dpend = false ∧
      t.pos = s.pos + (if n % 4 = 1 then pStepAddend s.cfg else if n % 4 = 3 then nStepAddend s.cfg else 0#16) ∧
      t.errcnt = s.errcnt + (if n % 4 = 2 then 1#8 else 0#8)) ∧
    (∃ t, runTrace (lineChanges nextN n s.enc ++ [.agent .dec]) s = .next t ∧ t.prev = t.enc ∧ t.dpend = false ∧
      t.pos = s.pos + (if n % 4 = 1 then nStepAddend s.cfg else if n % 4 = 3 then pStepAddend s.cfg else 0#16) ∧
      t.errcnt = s.errcnt + (if n % 4 = 2 then 1#8 else 0#8))

/-! ## Requests, the clock, the snapshot -/

/-- R160: a line change. The latched request is the spec's decision D13 (log 22). -/
def Obligations.LineChangeRequestsTheDecoder : Prop :=
  ∀ (smp : Sample) (s : State),
    (smp ≠ s.enc → exec (.enc smp) s = .next { s with enc := smp, dpend := true }) ∧
    (smp = s.enc → exec (.enc smp) s = .next s)

/-- R150. The one-deep request is the spec's decision D13 (log 22). -/
def Obligations.TickLatchesARequest : Prop :=
  ∀ s : State, exec .tick s = .next { s with tpend := true }

/-- R151: the tick handler's step where it is enabled; that the event moves nothing elsewhere is the model's choice (log 7). -/
def Obligations.ClkCountsTheTick : Prop :=
  ∀ s : State,
    (s.tpend = true → s.imask = false →
      exec .clk s = .next { s with ms := BitVec.ofNat 8 ((s.ms.toNat + 1) % 256), tpend := false }) ∧
    (s.tpend = false ∨ s.imask = true → exec .clk s = .next s)

/-- R161: a handler that is not enabled does not run, and its request is kept. -/
def Obligations.HandlersWaitWhileMaskedOrIdle : Prop :=
  ∀ s : State,
    (s.dpend = false ∨ s.imask = true → exec .dec s = .next s) ∧
    (s.tpend = false ∨ s.imask = true → exec .clk s = .next s)

/-- R172: the two handlers reach the same state in either order. -/
def Obligations.HandlerOrderDoesNotMatter : Prop :=
  ∀ s : State, runTrace (agents [.dec, .clk]) s = runTrace (agents [.clk, .dec]) s

/-- R152, R153, R57: reading `MS` changes nothing; the clear writes 0 and does not touch `TPEND`. -/
def Obligations.MsReadAndMsClear : Prop :=
  ∀ s : State, exec .msRead s = .next s ∧ s.readMs = s.ms ∧ exec .msClear s = .next { s with ms := 0#8 }

/-- R165, R166, R167. -/
def Obligations.CriticalSectionAndSnapshotRead : Prop :=
  ∀ s : State,
    exec .csEnter s = .next { s with imask := true } ∧
    (s.imask = true → exec .snapRead s = .next { s with snapPos := s.pos, snapErr := s.errcnt }) ∧
    exec .csExit s = .next { s with imask := false }

/-- R168, R170: whatever happens inside the critical section, short of a sequencer step, the pair is the one that stood when it
was entered, and the decoder and the clock have not moved. -/
def Obligations.SnapshotPairIsAtomic : Prop :=
  ∀ (s t : State) (as bs : List AgentEvent), s.seq = .s1Enter → AgentEvent.seq ∉ as → AgentEvent.seq ∉ bs →
    runTrace (agents (.seq :: as ++ .seq :: bs ++ [.seq])) s = .next t →
      t.snapPos = s.pos ∧ t.snapErr = s.errcnt ∧ t.pos = s.pos ∧ t.errcnt = s.errcnt ∧ t.prev = s.prev ∧
      t.ms = s.ms ∧ t.imask = false ∧ t.seq = .s1Apply

/-- R39: a host byte is appended while there is room, and refused beyond `RX_DEPTH`. -/
def Obligations.HostByteIsQueuedOrRefused : Prop :=
  ∀ (b : Byte) (s : State),
    (s.rxq.length < s.cfg.rxDepth → exec (.rx b) s = .next { s with rxq := s.rxq ++ [b] }) ∧
    (s.cfg.rxDepth ≤ s.rxq.length → exec (.rx b) s = .refused .rxOverrun)

/-! ## The Motor Driver -/

/-- R181, R182. -/
def Obligations.ApplyWritesDirectionAndGatedDuty : Prop :=
  ∀ s : State,
    (s.errst = .noError → exec .apply s = .next { s with
      dir := if s.cmd.getLsbD 7 then .reverse else .forward
      duty := BitVec.ofNat 8 (s.cfg.dutyScale * (s.cmd.setWidth 7).toNat) }) ∧
    (s.errst ≠ .noError → exec .apply s = .next { s with
      dir := if s.cmd.getLsbD 7 then .reverse else .forward
      duty := 0#8 })

/-- R183, R184, R185: the three classes of command byte, with `CMD` holding it. That such a row acts by itself, and that `ACK` is
APPLY and ACKCHK in one step, is the model's reading (log 17). -/
def Obligations.CommandClassesDriveTheMotor : Prop :=
  (∀ (m : Seven) (s : State), s.cmd = m.setWidth 8 →
    (s.errst = .noError → exec (.fwd m) s = .next { s with
      dir := .forward, duty := BitVec.ofNat 8 (s.cfg.dutyScale * m.toNat) }) ∧
    (s.errst ≠ .noError → exec (.fwd m) s = .next { s with dir := .forward, duty := 0#8 })) ∧
  (∀ (m : Seven) (s : State), m ≠ 0#7 → s.cmd = (m.setWidth 8 ||| 0x80#8) →
    (s.errst = .noError → exec (.rev m) s = .next { s with
      dir := .reverse, duty := BitVec.ofNat 8 (s.cfg.dutyScale * m.toNat) }) ∧
    (s.errst ≠ .noError → exec (.rev m) s = .next { s with dir := .reverse, duty := 0#8 })) ∧
  (∀ s : State, s.cmd = 0x80#8 → exec .ack s = .next { s with dir := .reverse, duty := 0#8, errst := .noError })

/-- R186, R187. -/
def Obligations.AckchkAndForceZero : Prop :=
  ∀ s : State,
    (s.cmd = 0x80#8 → exec .ackchk s = .next { s with errst := .noError }) ∧
    (s.cmd ≠ 0x80#8 → exec .ackchk s = .next s) ∧
    exec .forceZero s = .next { s with duty := 0#8 }

/-- R180, R183 to R186: the two sequencer steps that act on the stored command do what its class says, from every state. -/
def Obligations.CycleAppliesTheCommandsClass : Prop :=
  ∀ s : State, s.seq = .s1Apply → ∃ t, exec (decodeCommand s.cmd) s = .next t ∧
    runTrace (agents [.seq, .seq]) s = .next { t with seq := .s3Tx0 }

/-- R190: the outputs change at `S1_APPLY` and `S5B_MARK` only, the direction at `S1_APPLY` only, over every step of a legal
trace. -/
def Obligations.OutputsHoldBetweenWrites : Prop :=
  ∀ s t : State, s.AgentsOnly → step s = .next t →
    (t.duty ≠ s.duty → s.seq = .s1Apply ∨ s.seq = .s5bMark) ∧ (t.dir ≠ s.dir → s.seq = .s1Apply)

/-! ## The Control-Loop Sequencer -/

/-- R201 to R204. -/
def Obligations.SnapshotAndApplyStates : Prop :=
  ∀ s : State,
    (s.seq = .s1Enter → exec .s1Enter s = .next { s with imask := true, seq := .s1Read }) ∧
    (s.seq = .s1Read → s.imask = true →
      exec .s1Read s = .next { s with snapPos := s.pos, snapErr := s.errcnt, seq := .s1Exit }) ∧
    (s.seq = .s1Exit → exec .s1Exit s = .next { s with imask := false, seq := .s1Apply }) ∧
    (s.seq = .s1Apply → exec .s1Apply s = .next { s with
      dir := if s.cmd.getLsbD 7 then .reverse else .forward
      duty := if s.errst = .noError then BitVec.ofNat 8 (s.cfg.dutyScale * (s.cmd.setWidth 7).toNat) else 0#8
      seq := .s2Ack })

/-- R206. -/
def Obligations.AcknowledgeCheckState : Prop :=
  ∀ s : State, s.seq = .s2Ack →
    (s.cmd = 0x80#8 → exec .s2Ack s = .next { s with errst := .noError, seq := .s3Tx0 }) ∧
    (s.cmd ≠ 0x80#8 → exec .s2Ack s = .next { s with seq := .s3Tx0 })

/-- R207, R208, R209: the first three bytes, each sent when the transport is ready. That the rows move nothing where it is not is
the model's choice (log 7). -/
def Obligations.TransmitStatesSendTheSnapshot : Prop :=
  ∀ s : State,
    (s.seq = .s3Tx0 → s.txReady = true → exec .s3Tx0 s = .next { s with
      txlog := s.txlog ++ [BitVec.ofNat 8 s.snapPos.toNat], seq := .s3Tx1 }) ∧
    (s.seq = .s3Tx1 → s.txReady = true → exec .s3Tx1 s = .next { s with
      txlog := s.txlog ++ [BitVec.ofNat 8 (s.snapPos.toNat / 256)], seq := .s3Tx2 }) ∧
    (s.seq = .s3Tx2 → s.txReady = true → exec .s3Tx2 s = .next { s with
      txlog := s.txlog ++ [s.snapErr], seq := .s3Tx3 }) ∧
    (s.txReady = false → exec .s3Tx0 s = .next s ∧ exec .s3Tx1 s = .next s ∧ exec .s3Tx2 s = .next s)

/-- R205, R210: the status byte, by the error state. That the row moves nothing where the transport is not ready is the model's
choice (log 7). -/
def Obligations.StatusByteState : Prop :=
  ∀ s : State, s.seq = .s3Tx3 →
    (s.txReady = true → s.errst = .noError →
      exec .s3Tx3 s = .next { s with txlog := s.txlog ++ [s.elapsed], seq := .s4Await }) ∧
    (s.txReady = true → s.errst = .poweredOn →
      exec .s3Tx3 s = .next { s with
        txlog := s.txlog ++ [s.cfg.codePoweredOn.setWidth 8 ||| 0x80#8], seq := .s4Await }) ∧
    (s.txReady = true → s.errst = .commandTimeout →
      exec .s3Tx3 s = .next { s with
        txlog := s.txlog ++ [s.cfg.codeCommandTimeout.setWidth 8 ||| 0x80#8], seq := .s4Await }) ∧
    (s.txReady = false → exec .s3Tx3 s = .next s)

/-- R205: the three rows of the status byte, each the send of `S3_TX3` where its condition holds (log 16). -/
def Obligations.StatusRowsSendTheirForm : Prop :=
  ∀ s : State, s.seq = .s3Tx3 → s.txReady = true →
    (∀ v : Seven, s.errst = .noError → s.elapsed = v.setWidth 8 →
      exec (.statusElapsed v) s = .next { s with txlog := s.txlog ++ [v.setWidth 8], seq := .s4Await }) ∧
    (s.errst = .poweredOn → exec .statusPoweredOn s = .next { s with
      txlog := s.txlog ++ [s.cfg.codePoweredOn.setWidth 8 ||| 0x80#8], seq := .s4Await }) ∧
    (s.errst = .commandTimeout → exec .statusCommandTimeout s = .next { s with
      txlog := s.txlog ++ [s.cfg.codeCommandTimeout.setWidth 8 ||| 0x80#8], seq := .s4Await })

/-- R53, R82, R88: the frame row sends the four bytes in order, as the four transmit states do, and the host rebuilds the
snapshot's Position from the first two. -/
def Obligations.FrameSendsFourBytesInOrder : Prop :=
  ∀ (lo hi err st : Byte) (s : State), s.seq = .s3Tx0 → s.txReady = true → s.snapPos = hi ++ lo → s.snapErr = err →
    s.status = st →
      exec (.frame lo hi err st) s = .next { s with txlog := s.txlog ++ [lo, hi, err, st], seq := .s4Await } ∧
      runTrace (agents [.seq, .seq, .seq, .seq]) s =
        .next { s with txlog := s.txlog ++ [lo, hi, err, st], seq := .s4Await } ∧
      hostPosition lo hi = s.snapPos

/-- R211, R212: one poll of `S4_AWAIT`; at a tie either branch. -/
def Obligations.AwaitPollDecides : Prop :=
  ∀ s : State, s.seq = .s4Await →
    (s.rxq ≠ [] → s.ms.toNat < s.cfg.timeoutTicks → exec .s4Await s = .next { s with seq := .s5aStore }) ∧
    (s.rxq = [] → s.cfg.timeoutTicks ≤ s.ms.toNat → exec .s4Await s = .next { s with seq := .s5bMark }) ∧
    (s.rxq ≠ [] → s.cfg.timeoutTicks ≤ s.ms.toNat →
      exec .s4Await s = .next { s with seq := .s5aStore, freeIdx := s.freeIdx + 1 } ∨
      exec .s4Await s = .next { s with seq := .s5bMark, freeIdx := s.freeIdx + 1 }) ∧
    (s.rxq = [] → s.ms.toNat < s.cfg.timeoutTicks → exec .s4Await s = .next s)

/-- R213, R214, R216: a received command is stored, its elapsed time recorded, and `MS` cleared at the end. -/
def Obligations.CommandReceivedStates : Prop :=
  ∀ s : State,
    (∀ b rest, s.seq = .s5aStore → s.rxq = b :: rest →
      exec .s5aStore s = .next { s with cmd := b, rxq := rest, seq := .s5aRec }) ∧
    (s.seq = .s5aRec → exec .s5aRec s = .next { s with elapsed := s.ms, seq := .s5aWait }) ∧
    (s.seq = .s5aClear → exec .s5aClear s = .next { s with ms := 0#8, seq := .s1Enter })

/-- R215: one poll of the cadence wait. -/
def Obligations.CadenceWaitPoll : Prop :=
  ∀ s : State, s.seq = .s5aWait →
    (s.elapsed.toNat < s.cfg.cadenceTicks → s.ms.toNat = s.cfg.cadenceTicks →
      exec .s5aWait s = .next { s with seq := .s5aClear }) ∧
    (s.elapsed.toNat < s.cfg.cadenceTicks → s.ms.toNat ≠ s.cfg.cadenceTicks → exec .s5aWait s = .next s) ∧
    (s.cfg.cadenceTicks ≤ s.elapsed.toNat → s.ms ≠ s.elapsed → exec .s5aWait s = .next { s with seq := .s5aClear }) ∧
    (s.cfg.cadenceTicks ≤ s.elapsed.toNat → s.ms = s.elapsed → exec .s5aWait s = .next s)

/-- R217. -/
def Obligations.TimeoutMarkState : Prop :=
  ∀ s : State, s.seq = .s5bMark →
    exec .s5bMark s = .next { s with
      errst := if s.errst = .noError then .commandTimeout else s.errst
      elapsed := s.cfg.elapsedTimeout
      duty := 0#8
      seq := .s5bDrain }

/-- R218. -/
def Obligations.TimeoutDrainState : Prop :=
  ∀ s : State, s.seq = .s5bDrain →
    (∀ b rest, s.rxq = b :: rest → exec .s5bDrain s = .next { s with cmd := 0#8, rxq := rest, seq := .s5bRef }) ∧
    (s.rxq = [] → exec .s5bDrain s = .next s)

/-- R219, R220, R221. -/
def Obligations.TimeoutWaitStates : Prop :=
  ∀ s : State,
    (s.seq = .s5bRef → exec .s5bRef s = .next { s with t0 := s.ms, seq := .s5bWait }) ∧
    (s.seq = .s5bWait → s.ms ≠ s.t0 → exec .s5bWait s = .next { s with seq := .s5bClear }) ∧
    (s.seq = .s5bWait → s.ms = s.t0 → exec .s5bWait s = .next s) ∧
    (s.seq = .s5bClear → exec .s5bClear s = .next { s with ms := 0#8, seq := .s1Enter })

/-- R200, R222: a sequencer step goes to a successor of the table, or is a poll of a blocking state that did not move and changed
nothing; in the invariant every state that is no blocking point moves on. -/
def Obligations.SequencerFollowsTheSuccessorTable : Prop :=
  ∀ s : State,
    (∀ t, exec (seqRow s.seq) s = .next t → t.seq ∈ successors s.seq ∨ (s.seq ∈ blockingStates ∧ t = s)) ∧
    (Inv s → s.seq ∉ blockingStates → ∃ t, exec (seqRow s.seq) s = .next t ∧ t.seq ∈ successors s.seq)

/-- The model's choice (log 7, on R10 and R87): an agents' event that is not enabled changes nothing where it does not stop; a
micro-state's row that `SEQ` does not hold, a code row that is not the one selected or whose DEC step is not enabled, a command
row whose byte `CMD` does not hold, a status row and a frame that the transport, `SEQ` or the bytes do not admit, move nothing. -/
def Obligations.UnselectedRowsMoveNothing : Prop :=
  (∀ (e : Event) (s t : State), isAgentEvent s.cfg e = true → eventEnabled e s = false → runEvent e s = .next t → t = s) ∧
  (∀ (q : SeqState) (s : State), s.seq ≠ q → exec (seqRow q) s = .next s) ∧
  (∀ (mode : CountMode) (code : Code) (s : State),
    (s.cfg.countMode ≠ mode ∨ s.enc ++ s.prev ≠ code ∨ s.dpend = false ∨ s.imask = true) →
    exec (codeRow mode code) s = .next s) ∧
  (∀ (m : Seven) (s : State),
    (s.cmd ≠ m.setWidth 8 → exec (.fwd m) s = .next s) ∧
    (s.cmd ≠ (m.setWidth 8 ||| 0x80#8) → exec (.rev m) s = .next s) ∧
    (s.cmd ≠ 0x80#8 → exec .ack s = .next s)) ∧
  (∀ (v : Seven) (s : State),
    (s.seq ≠ .s3Tx3 ∨ s.txReady = false ∨ s.errst ≠ .noError ∨ s.elapsed ≠ v.setWidth 8 →
      exec (.statusElapsed v) s = .next s) ∧
    (s.seq ≠ .s3Tx3 ∨ s.txReady = false ∨ s.errst ≠ .poweredOn → exec .statusPoweredOn s = .next s) ∧
    (s.seq ≠ .s3Tx3 ∨ s.txReady = false ∨ s.errst ≠ .commandTimeout → exec .statusCommandTimeout s = .next s)) ∧
  (∀ (lo hi err st : Byte) (s : State),
    s.seq ≠ .s3Tx0 ∨ s.txReady = false ∨ s.snapPos ≠ hi ++ lo ∨ s.snapErr ≠ err ∨ s.status ≠ st →
      exec (.frame lo hi err st) s = .next s)

/-- The model's choice (log 12; log 13 on R43): a snapshot read outside the critical section faults; a `readByte` of an empty
queue has no step. -/
def Obligations.IllegalReadsStopByName : Prop :=
  ∀ s : State,
    (s.imask = false → exec .snapRead s = .fault .snapshotUnmasked) ∧
    (s.imask = false → s.seq = .s1Read → exec .s1Read s = .fault .snapshotUnmasked) ∧
    (s.seq = .s5aStore → s.rxq = [] → exec .s5aStore s = .refused .readByteEmpty)

/-- R211, R215 and R225: with every tick counted before the next poll, the cadence wait ends after exactly the ticks that are
missing, with `MS` at the cadence. -/
def Obligations.CadenceWaitEndsAtTheCadence : Prop :=
  ∀ (n : Nat) (s : State), s.seq = .s5aWait → s.imask = false → s.tpend = false → s.cfg.cadenceTicks < 256 →
    s.elapsed.toNat < s.cfg.cadenceTicks → s.ms.toNat + (n + 1) = s.cfg.cadenceTicks →
      runTrace (repeated (n + 1) (msec ++ [seqAt .s5aWait])) s =
        .next { s with ms := BitVec.ofNat 8 s.cfg.cadenceTicks, seq := .s5aClear }

/-- R211, R243: with every tick counted before the next poll and no byte, the bounded wait ends in the timeout after exactly the
ticks that are missing. -/
def Obligations.SilenceEndsInTheTimeout : Prop :=
  ∀ (n : Nat) (s : State), s.seq = .s4Await → s.imask = false → s.tpend = false → s.cfg.timeoutTicks < 256 →
    s.rxq = [] → s.ms.toNat + (n + 1) = s.cfg.timeoutTicks →
      runTrace (repeated (n + 1) (msec ++ [seqAt .s4Await])) s =
        .next { s with ms := BitVec.ofNat 8 s.cfg.timeoutTicks, seq := .s5bMark }

/-! ## Errors, ownership, reset, the whole machine -/

/-- R245: the transitions of `ERRST`. -/
def Obligations.ErrorStateTransitions : Prop :=
  (∀ (c : Config) (e : Sample), (State.powerOn c e).errst = .poweredOn) ∧
  (∀ (a : AgentEvent) (s t : State), runEvent (.agent a) s = .next t →
    t.errst = s.errst ∨
    (a = .seq ∧ s.seq = .s2Ack ∧ s.cmd = 0x80#8 ∧ t.errst = .noError) ∨
    (a = .seq ∧ s.seq = .s5bMark ∧ s.errst = .noError ∧ t.errst = .commandTimeout)) ∧
  (∀ s : State, s.seq = .s2Ack → s.cmd = 0x80#8 →
    ∃ t, runEvent (.agent .seq) s = .next t ∧ t.errst = .noError) ∧
  (∀ s : State, s.seq = .s5bMark → s.errst = .noError →
    ∃ t, runEvent (.agent .seq) s = .next t ∧ t.errst = .commandTimeout)

/-- R20, R31, R248: who writes what, over every agent's step; who writes a pending flag and with what value is the spec's decision
D13 (log 22). -/
def Obligations.RegistersAreWrittenByTheirOwners : Prop :=
  ∀ (a : AgentEvent) (s t : State), runEvent (.agent a) s = .next t →
    t.cfg = s.cfg ∧ t.trace = s.trace ∧
    (a ≠ .dec → t.pos = s.pos ∧ t.errcnt = s.errcnt ∧ t.prev = s.prev) ∧
    (t.ms ≠ s.ms → (a = .clk ∧ t.ms = s.ms + 1#8) ∨ (a = .seq ∧ t.ms = 0#8)) ∧
    (a ≠ .seq → t.cmd = s.cmd ∧ t.errst = s.errst ∧ t.elapsed = s.elapsed ∧ t.snapPos = s.snapPos ∧
      t.snapErr = s.snapErr ∧ t.duty = s.duty ∧ t.dir = s.dir ∧ t.imask = s.imask ∧ t.seq = s.seq ∧ t.t0 = s.t0 ∧
      t.txlog = s.txlog ∧ t.freeIdx = s.freeIdx) ∧
    (t.dpend ≠ s.dpend → (∃ smp, a = .enc smp ∧ t.dpend = true) ∨ (a = .dec ∧ t.dpend = false)) ∧
    (t.tpend ≠ s.tpend → (a = .tick ∧ t.tpend = true) ∨ (a = .clk ∧ t.tpend = false)) ∧
    (t.enc ≠ s.enc → a = .enc t.enc) ∧
    (t.txReady ≠ s.txReady → a = .ready t.txReady) ∧
    (t.rxq ≠ s.rxq → (∃ b, a = .rx b ∧ t.rxq = s.rxq ++ [b]) ∨ (a = .seq ∧ ∃ b, s.rxq = b :: t.rxq))

/-- R56 (b), R166: no sequencer step but `S1_READ` reads `POS` or `ERRCNT`. -/
def Obligations.OnlyTheSnapshotReadsTheCounters : Prop :=
  ∀ (p : Pos) (e : Byte) (s : State), s.seq ≠ .s1Read →
    exec (seqRow s.seq) { s with pos := p, errcnt := e } = withCounters p e (exec (seqRow s.seq) s)

/-- R25, R24, R26, R33: the values the source states for power-on, for every build and every resting level of the lines. -/
def Obligations.PowerOnLeavesTheStatedValues : Prop :=
  ∀ (c : Config) (e : Sample),
    (State.powerOn c e).errst = .poweredOn ∧ (State.powerOn c e).cmd = 0#8 ∧ (State.powerOn c e).ms = 0#8 ∧
    (State.powerOn c e).seq = .s1Enter ∧ State.reset = State.powerOn Config.default 0b00#2

/-- R281's decided values (D7, D10, D19, D26) and the model's own (logs 3, 4, 6): what else power-on leaves. -/
def Obligations.PowerOnLeavesTheDecidedValues : Prop :=
  ∀ (c : Config) (e : Sample), ∃ s, s = State.powerOn c e ∧
    s.pos = 0#16 ∧ s.errcnt = 0#8 ∧ s.prev = c.prevReset ∧ s.duty = 0#8 ∧ s.dir = .forward ∧ s.imask = false ∧
    s.dpend = false ∧ s.tpend = false ∧ s.rxq = [] ∧ s.txlog = [] ∧ s.enc = e ∧
    s.elapsed = 0#8 ∧ s.snapPos = 0#16 ∧ s.snapErr = 0#8 ∧ s.t0 = 0#8 ∧ s.txReady = true ∧ s.trace = []

/-- R7, R31, R39, R40, R165, R188, R189, R213, R217, R218: the invariant holds at power-on. -/
def Obligations.InvariantHoldsAtPowerOn : Prop :=
  (∀ (c : Config) (e : Sample), c.wf = true → Inv (State.powerOn c e)) ∧ Inv State.reset

/-- The same invariant is kept by every step, whatever event comes. -/
def Obligations.EveryStepKeepsTheInvariant : Prop :=
  ∀ s t : State, Inv s → step s = .next t → Inv t

/-- R240, R87: from a state of the invariant nothing stops the machine but a host byte beyond `RX_DEPTH` (R39, log 14) or a line
of the trace that is no trace of this device (an undecodable word, an ill-formed row, a status byte never sent: logs 10 and 29, R86); and
an event that is enabled never stops it. -/
def Obligations.OnlyOverrunsAndBadWordsStop : Prop :=
  ∀ s : State, Inv s →
    ((∃ t, step s = .next t) ∨ step s = .refused .rxOverrun ∨ ∃ err, step s = .refused (.undecodable err)) ∧
    ∀ e : Event, eventEnabled e s = true → ∃ t, runEvent e s = .next t

/-- R224: from the mark of a timeout until `ELAPSED` is next recorded by `S5A_REC`, the status byte is an error code: the
sentinel is never transmitted. -/
def Obligations.TimeoutSentinelIsNeverSent : Prop :=
  ∀ s t : State, s.AgentsOnly → s.seq = .s5bDrain → s.errst ≠ .noError →
    Runs (fun u => u.seq ≠ .s5aRec) s t →
      t.errst ≠ .noError ∧
      (t.status = errorStatus t.cfg.codePoweredOn ∨ t.status = errorStatus t.cfg.codeCommandTimeout)

/-- R205, R214, R224, R86: bit 7 of the status byte is set exactly while an error is active. The property of `ELAPSED` behind it
holds at power-on and is kept by every step that records no `MS` of 128 or more; and after a poll of `S4_AWAIT` that saw `MS` below
the threshold, under `POLL_FAST` (R223) and with at most `k` CLK steps between the poll that sees the byte and `S5A_REC`, the value
recorded is at most `TIMEOUT_TICKS + k`. What the device sends without those premises: log 29. -/
def Obligations.StatusBitSevenTellsTheError : Prop :=
  (∀ (c : Config) (e : Sample), ElapsedTells (State.powerOn c e)) ∧
  (∀ s t : State, s.AgentsOnly → ElapsedTells s → (s.seq = .s5aRec → s.ms.toNat < 128) → step s = .next t →
    ElapsedTells t) ∧
  (∀ s : State, ElapsedTells s → (s.status.getLsbD 7 = true ↔ s.errst ≠ .noError)) ∧
  (∀ (k : Nat) (ps bs cs : List AgentEvent) (s u t : State),
    s.seq = .s4Await → s.ms.toNat < s.cfg.timeoutTicks → s.cfg.timeoutTicks + k < 256 →
    pollFast (some 0) (agents (ps ++ [.seq])) s = true → staysAt .s4Await (agents (ps ++ [.seq])) s = true →
    runTrace (agents (ps ++ [.seq])) s = .next u → u.seq = .s5aStore →
    AgentEvent.seq ∉ bs → AgentEvent.seq ∉ cs → (bs ++ cs).count .clk ≤ k →
    runTrace (agents (bs ++ .seq :: cs ++ [.seq])) u = .next t →
      t.elapsed.toNat ≤ s.cfg.timeoutTicks + k)

/-- R59, R33, R87: a step takes the next event and runs the row it stands for, or is refused where the event is no line of a trace
of this device. That the trace stands in State and goes on freely past its end is log 1; that a row outright and a word are events
and how a bare word is read, logs 10, 11 and 15; the `TX` events, logs 7, 16 and 29. -/
def Obligations.StepRunsTheDecodedRow : Prop :=
  ∀ (s : State) (rest : List Event),
    (∀ bytes i, s.trace = .word bytes :: rest → decodeWord s.cfg bytes = .ok i →
      step s = exec i { s with trace := rest }) ∧
    (∀ bytes err, s.trace = .word bytes :: rest → decodeWord s.cfg bytes = .error err →
      step s = .refused (.undecodable err)) ∧
    (∀ f bytes i, s.trace = .wordIn f bytes :: rest → decode s.cfg f bytes = .ok i →
      step s = exec i { s with trace := rest }) ∧
    (∀ f bytes err, s.trace = .wordIn f bytes :: rest → decode s.cfg f bytes = .error err →
      step s = .refused (.undecodable err)) ∧
    (∀ i, s.trace = .row i :: rest → i.wf s.cfg = true → step s = exec i { s with trace := rest }) ∧
    (∀ i, s.trace = .row i :: rest → i.wf s.cfg = false → step s = .refused (.undecodable .illFormed)) ∧
    (∀ b, s.trace = .tx b :: rest → s.seq = .s3Tx3 → s.cfg.sendsStatus b = false →
      step s = .refused (.undecodable .statusNeverSent)) ∧
    (∀ b, s.trace = .tx b :: rest → (s.seq = .s3Tx3 → s.cfg.sendsStatus b = true) → s.txByte = some b →
      step s = exec (seqRow s.seq) { s with trace := rest }) ∧
    (∀ b, s.trace = .tx b :: rest → (s.seq = .s3Tx3 → s.cfg.sendsStatus b = true) → s.txByte ≠ some b →
      step s = .next { s with trace := rest }) ∧
    (s.trace = .agent .seq :: rest → step s = exec (seqRow s.seq) { s with trace := rest }) ∧
    (s.trace = .agent .dec :: rest → step s = exec .dec { s with trace := rest }) ∧
    (s.trace = .agent .clk :: rest → step s = exec .clk { s with trace := rest }) ∧
    (∀ smp, s.trace = .agent (.enc smp) :: rest → step s = exec (.enc smp) { s with trace := rest }) ∧
    (∀ b, s.trace = .agent (.rx b) :: rest → step s = exec (.rx b) { s with trace := rest }) ∧
    (s.trace = .agent .tick :: rest → step s = exec .tick { s with trace := rest }) ∧
    (∀ r, s.trace = .agent (.ready r) :: rest → step s = .next { s with trace := rest, txReady := r }) ∧
    (s.trace = [] →
      step s = runEvent (.agent (Config.freeSchedule s.freeIdx)) { s with freeIdx := s.freeIdx + 1 })

/-! ## Encodings -/

/-- R71, R77, R81, R82: decoding what the encoder writes gives the instruction back, for every row that has a bit pattern. -/
def Obligations.DecodeInvertsEncode : Prop :=
  ∀ (c : Config) (i : Instr) (f : Format) (bytes : List Byte), c.wf = true → i.wf c = true →
    encode c i = some (f, bytes) → decode c f bytes = .ok i

/-- R70, R71, R78, R81, R82: a word that decodes is the encoding of what it decodes to, and that is well formed. -/
def Obligations.EncodeInvertsDecode : Prop :=
  ∀ (c : Config) (f : Format) (bytes : List Byte) (i : Instr), c.wf = true →
    decode c f bytes = .ok i → i.wf c = true ∧ encode c i = some (f, bytes)

/-- R78: the three classes of command byte, every byte in exactly one. -/
def Obligations.EveryCommandByteHasItsClass : Prop :=
  ∀ b : Byte,
    (b.toNat < 0x80 → decodeCommand b = .fwd (BitVec.ofNat 7 b.toNat)) ∧
    (b.toNat = 0x80 → decodeCommand b = .ack) ∧
    (0x80 < b.toNat → decodeCommand b = .rev (BitVec.ofNat 7 (b.toNat - 0x80)))

/-- Words written out from the spec's encodings: R118's, R124's, R183's, R184's, R185's, R205's and R82's. The two error status
bytes, and that 0x83 is never sent, also as a frame's fourth byte, rest on the spec's decision D6 for the default codes (log 20). -/
def Obligations.WrittenWordsDecode : Prop :=
  decode Config.default .quarterCode [0b00001110#8] = .ok .q14 ∧
  decode Config.default .coarseCode [0b00000011#8] = .ok .c3 ∧
  decode Config.default .command [0b01010000#8] = .ok (.fwd 80#7) ∧
  decode Config.default .command [0b11010000#8] = .ok (.rev 80#7) ∧
  decode Config.default .command [0b10000000#8] = .ok .ack ∧
  decode Config.default .status [0b00000111#8] = .ok (.statusElapsed 7#7) ∧
  decode Config.default .status [0b10000001#8] = .ok .statusPoweredOn ∧
  decode Config.default .status [0b10000010#8] = .ok .statusCommandTimeout ∧
  decode Config.default .status [0b10000011#8] = .error .statusNeverSent ∧
  decode Config.default .frame [0x34#8, 0x12#8, 0x07#8, 0x07#8] = .ok (.frame 0x34#8 0x12#8 0x07#8 0x07#8) ∧
  decode Config.default .frame [0x34#8, 0x12#8, 0x07#8, 0x83#8] = .error .statusNeverSent
end

