-- ==== Sys2Proof/Laws/State.lean ====
section
/-! SUPPORT. Laws/State.lean: what each named update does to each field of State, one lemma per field per update: later proofs
cite these and unfold no record update. -/

namespace Sys2Proof.Machine

@[simp] theorem State.maskOn_cfg (s : State) : s.maskOn.cfg = s.cfg := rfl
@[simp] theorem State.maskOn_enc (s : State) : s.maskOn.enc = s.enc := rfl
@[simp] theorem State.maskOn_txReady (s : State) : s.maskOn.txReady = s.txReady := rfl
@[simp] theorem State.maskOn_prev (s : State) : s.maskOn.prev = s.prev := rfl
@[simp] theorem State.maskOn_pos (s : State) : s.maskOn.pos = s.pos := rfl
@[simp] theorem State.maskOn_errcnt (s : State) : s.maskOn.errcnt = s.errcnt := rfl
@[simp] theorem State.maskOn_ms (s : State) : s.maskOn.ms = s.ms := rfl
@[simp] theorem State.maskOn_cmd (s : State) : s.maskOn.cmd = s.cmd := rfl
@[simp] theorem State.maskOn_errst (s : State) : s.maskOn.errst = s.errst := rfl
@[simp] theorem State.maskOn_elapsed (s : State) : s.maskOn.elapsed = s.elapsed := rfl
@[simp] theorem State.maskOn_snapPos (s : State) : s.maskOn.snapPos = s.snapPos := rfl
@[simp] theorem State.maskOn_snapErr (s : State) : s.maskOn.snapErr = s.snapErr := rfl
@[simp] theorem State.maskOn_duty (s : State) : s.maskOn.duty = s.duty := rfl
@[simp] theorem State.maskOn_dir (s : State) : s.maskOn.dir = s.dir := rfl
@[simp] theorem State.maskOn_imask (s : State) : s.maskOn.imask = true := rfl
@[simp] theorem State.maskOn_dpend (s : State) : s.maskOn.dpend = s.dpend := rfl
@[simp] theorem State.maskOn_tpend (s : State) : s.maskOn.tpend = s.tpend := rfl
@[simp] theorem State.maskOn_seq (s : State) : s.maskOn.seq = s.seq := rfl
@[simp] theorem State.maskOn_t0 (s : State) : s.maskOn.t0 = s.t0 := rfl
@[simp] theorem State.maskOn_rxq (s : State) : s.maskOn.rxq = s.rxq := rfl
@[simp] theorem State.maskOn_txlog (s : State) : s.maskOn.txlog = s.txlog := rfl
@[simp] theorem State.maskOn_trace (s : State) : s.maskOn.trace = s.trace := rfl
@[simp] theorem State.maskOn_freeIdx (s : State) : s.maskOn.freeIdx = s.freeIdx := rfl

@[simp] theorem State.maskOff_cfg (s : State) : s.maskOff.cfg = s.cfg := rfl
@[simp] theorem State.maskOff_enc (s : State) : s.maskOff.enc = s.enc := rfl
@[simp] theorem State.maskOff_txReady (s : State) : s.maskOff.txReady = s.txReady := rfl
@[simp] theorem State.maskOff_prev (s : State) : s.maskOff.prev = s.prev := rfl
@[simp] theorem State.maskOff_pos (s : State) : s.maskOff.pos = s.pos := rfl
@[simp] theorem State.maskOff_errcnt (s : State) : s.maskOff.errcnt = s.errcnt := rfl
@[simp] theorem State.maskOff_ms (s : State) : s.maskOff.ms = s.ms := rfl
@[simp] theorem State.maskOff_cmd (s : State) : s.maskOff.cmd = s.cmd := rfl
@[simp] theorem State.maskOff_errst (s : State) : s.maskOff.errst = s.errst := rfl
@[simp] theorem State.maskOff_elapsed (s : State) : s.maskOff.elapsed = s.elapsed := rfl
@[simp] theorem State.maskOff_snapPos (s : State) : s.maskOff.snapPos = s.snapPos := rfl
@[simp] theorem State.maskOff_snapErr (s : State) : s.maskOff.snapErr = s.snapErr := rfl
@[simp] theorem State.maskOff_duty (s : State) : s.maskOff.duty = s.duty := rfl
@[simp] theorem State.maskOff_dir (s : State) : s.maskOff.dir = s.dir := rfl
@[simp] theorem State.maskOff_imask (s : State) : s.maskOff.imask = false := rfl
@[simp] theorem State.maskOff_dpend (s : State) : s.maskOff.dpend = s.dpend := rfl
@[simp] theorem State.maskOff_tpend (s : State) : s.maskOff.tpend = s.tpend := rfl
@[simp] theorem State.maskOff_seq (s : State) : s.maskOff.seq = s.seq := rfl
@[simp] theorem State.maskOff_t0 (s : State) : s.maskOff.t0 = s.t0 := rfl
@[simp] theorem State.maskOff_rxq (s : State) : s.maskOff.rxq = s.rxq := rfl
@[simp] theorem State.maskOff_txlog (s : State) : s.maskOff.txlog = s.txlog := rfl
@[simp] theorem State.maskOff_trace (s : State) : s.maskOff.trace = s.trace := rfl
@[simp] theorem State.maskOff_freeIdx (s : State) : s.maskOff.freeIdx = s.freeIdx := rfl

@[simp] theorem State.goto_cfg (s : State) (q : SeqState) : (s.goto q).cfg = s.cfg := rfl
@[simp] theorem State.goto_enc (s : State) (q : SeqState) : (s.goto q).enc = s.enc := rfl
@[simp] theorem State.goto_txReady (s : State) (q : SeqState) : (s.goto q).txReady = s.txReady := rfl
@[simp] theorem State.goto_prev (s : State) (q : SeqState) : (s.goto q).prev = s.prev := rfl
@[simp] theorem State.goto_pos (s : State) (q : SeqState) : (s.goto q).pos = s.pos := rfl
@[simp] theorem State.goto_errcnt (s : State) (q : SeqState) : (s.goto q).errcnt = s.errcnt := rfl
@[simp] theorem State.goto_ms (s : State) (q : SeqState) : (s.goto q).ms = s.ms := rfl
@[simp] theorem State.goto_cmd (s : State) (q : SeqState) : (s.goto q).cmd = s.cmd := rfl
@[simp] theorem State.goto_errst (s : State) (q : SeqState) : (s.goto q).errst = s.errst := rfl
@[simp] theorem State.goto_elapsed (s : State) (q : SeqState) : (s.goto q).elapsed = s.elapsed := rfl
@[simp] theorem State.goto_snapPos (s : State) (q : SeqState) : (s.goto q).snapPos = s.snapPos := rfl
@[simp] theorem State.goto_snapErr (s : State) (q : SeqState) : (s.goto q).snapErr = s.snapErr := rfl
@[simp] theorem State.goto_duty (s : State) (q : SeqState) : (s.goto q).duty = s.duty := rfl
@[simp] theorem State.goto_dir (s : State) (q : SeqState) : (s.goto q).dir = s.dir := rfl
@[simp] theorem State.goto_imask (s : State) (q : SeqState) : (s.goto q).imask = s.imask := rfl
@[simp] theorem State.goto_dpend (s : State) (q : SeqState) : (s.goto q).dpend = s.dpend := rfl
@[simp] theorem State.goto_tpend (s : State) (q : SeqState) : (s.goto q).tpend = s.tpend := rfl
@[simp] theorem State.goto_seq (s : State) (q : SeqState) : (s.goto q).seq = q := rfl
@[simp] theorem State.goto_t0 (s : State) (q : SeqState) : (s.goto q).t0 = s.t0 := rfl
@[simp] theorem State.goto_rxq (s : State) (q : SeqState) : (s.goto q).rxq = s.rxq := rfl
@[simp] theorem State.goto_txlog (s : State) (q : SeqState) : (s.goto q).txlog = s.txlog := rfl
@[simp] theorem State.goto_trace (s : State) (q : SeqState) : (s.goto q).trace = s.trace := rfl
@[simp] theorem State.goto_freeIdx (s : State) (q : SeqState) : (s.goto q).freeIdx = s.freeIdx := rfl

@[simp] theorem State.count_cfg (s : State) (act : Action) : (s.count act).cfg = s.cfg := rfl
@[simp] theorem State.count_enc (s : State) (act : Action) : (s.count act).enc = s.enc := rfl
@[simp] theorem State.count_txReady (s : State) (act : Action) : (s.count act).txReady = s.txReady := rfl
@[simp] theorem State.count_prev (s : State) (act : Action) : (s.count act).prev = s.enc := rfl
@[simp] theorem State.count_pos (s : State) (act : Action) : (s.count act).pos = s.pos + Action.addend act := rfl
@[simp] theorem State.count_errcnt (s : State) (act : Action) : (s.count act).errcnt = s.errcnt + Action.errAddend act := rfl
@[simp] theorem State.count_ms (s : State) (act : Action) : (s.count act).ms = s.ms := rfl
@[simp] theorem State.count_cmd (s : State) (act : Action) : (s.count act).cmd = s.cmd := rfl
@[simp] theorem State.count_errst (s : State) (act : Action) : (s.count act).errst = s.errst := rfl
@[simp] theorem State.count_elapsed (s : State) (act : Action) : (s.count act).elapsed = s.elapsed := rfl
@[simp] theorem State.count_snapPos (s : State) (act : Action) : (s.count act).snapPos = s.snapPos := rfl
@[simp] theorem State.count_snapErr (s : State) (act : Action) : (s.count act).snapErr = s.snapErr := rfl
@[simp] theorem State.count_duty (s : State) (act : Action) : (s.count act).duty = s.duty := rfl
@[simp] theorem State.count_dir (s : State) (act : Action) : (s.count act).dir = s.dir := rfl
@[simp] theorem State.count_imask (s : State) (act : Action) : (s.count act).imask = s.imask := rfl
@[simp] theorem State.count_dpend (s : State) (act : Action) : (s.count act).dpend = s.dpend := rfl
@[simp] theorem State.count_tpend (s : State) (act : Action) : (s.count act).tpend = s.tpend := rfl
@[simp] theorem State.count_seq (s : State) (act : Action) : (s.count act).seq = s.seq := rfl
@[simp] theorem State.count_t0 (s : State) (act : Action) : (s.count act).t0 = s.t0 := rfl
@[simp] theorem State.count_rxq (s : State) (act : Action) : (s.count act).rxq = s.rxq := rfl
@[simp] theorem State.count_txlog (s : State) (act : Action) : (s.count act).txlog = s.txlog := rfl
@[simp] theorem State.count_trace (s : State) (act : Action) : (s.count act).trace = s.trace := rfl
@[simp] theorem State.count_freeIdx (s : State) (act : Action) : (s.count act).freeIdx = s.freeIdx := rfl

@[simp] theorem State.countTick_cfg (s : State) : s.countTick.cfg = s.cfg := rfl
@[simp] theorem State.countTick_enc (s : State) : s.countTick.enc = s.enc := rfl
@[simp] theorem State.countTick_txReady (s : State) : s.countTick.txReady = s.txReady := rfl
@[simp] theorem State.countTick_prev (s : State) : s.countTick.prev = s.prev := rfl
@[simp] theorem State.countTick_pos (s : State) : s.countTick.pos = s.pos := rfl
@[simp] theorem State.countTick_errcnt (s : State) : s.countTick.errcnt = s.errcnt := rfl
@[simp] theorem State.countTick_ms (s : State) : s.countTick.ms = s.ms + 1#8 := rfl
@[simp] theorem State.countTick_cmd (s : State) : s.countTick.cmd = s.cmd := rfl
@[simp] theorem State.countTick_errst (s : State) : s.countTick.errst = s.errst := rfl
@[simp] theorem State.countTick_elapsed (s : State) : s.countTick.elapsed = s.elapsed := rfl
@[simp] theorem State.countTick_snapPos (s : State) : s.countTick.snapPos = s.snapPos := rfl
@[simp] theorem State.countTick_snapErr (s : State) : s.countTick.snapErr = s.snapErr := rfl
@[simp] theorem State.countTick_duty (s : State) : s.countTick.duty = s.duty := rfl
@[simp] theorem State.countTick_dir (s : State) : s.countTick.dir = s.dir := rfl
@[simp] theorem State.countTick_imask (s : State) : s.countTick.imask = s.imask := rfl
@[simp] theorem State.countTick_dpend (s : State) : s.countTick.dpend = s.dpend := rfl
@[simp] theorem State.countTick_tpend (s : State) : s.countTick.tpend = s.tpend := rfl
@[simp] theorem State.countTick_seq (s : State) : s.countTick.seq = s.seq := rfl
@[simp] theorem State.countTick_t0 (s : State) : s.countTick.t0 = s.t0 := rfl
@[simp] theorem State.countTick_rxq (s : State) : s.countTick.rxq = s.rxq := rfl
@[simp] theorem State.countTick_txlog (s : State) : s.countTick.txlog = s.txlog := rfl
@[simp] theorem State.countTick_trace (s : State) : s.countTick.trace = s.trace := rfl
@[simp] theorem State.countTick_freeIdx (s : State) : s.countTick.freeIdx = s.freeIdx := rfl

@[simp] theorem State.clearMs_cfg (s : State) : s.clearMs.cfg = s.cfg := rfl
@[simp] theorem State.clearMs_enc (s : State) : s.clearMs.enc = s.enc := rfl
@[simp] theorem State.clearMs_txReady (s : State) : s.clearMs.txReady = s.txReady := rfl
@[simp] theorem State.clearMs_prev (s : State) : s.clearMs.prev = s.prev := rfl
@[simp] theorem State.clearMs_pos (s : State) : s.clearMs.pos = s.pos := rfl
@[simp] theorem State.clearMs_errcnt (s : State) : s.clearMs.errcnt = s.errcnt := rfl
@[simp] theorem State.clearMs_ms (s : State) : s.clearMs.ms = 0#8 := rfl
@[simp] theorem State.clearMs_cmd (s : State) : s.clearMs.cmd = s.cmd := rfl
@[simp] theorem State.clearMs_errst (s : State) : s.clearMs.errst = s.errst := rfl
@[simp] theorem State.clearMs_elapsed (s : State) : s.clearMs.elapsed = s.elapsed := rfl
@[simp] theorem State.clearMs_snapPos (s : State) : s.clearMs.snapPos = s.snapPos := rfl
@[simp] theorem State.clearMs_snapErr (s : State) : s.clearMs.snapErr = s.snapErr := rfl
@[simp] theorem State.clearMs_duty (s : State) : s.clearMs.duty = s.duty := rfl
@[simp] theorem State.clearMs_dir (s : State) : s.clearMs.dir = s.dir := rfl
@[simp] theorem State.clearMs_imask (s : State) : s.clearMs.imask = s.imask := rfl
@[simp] theorem State.clearMs_dpend (s : State) : s.clearMs.dpend = s.dpend := rfl
@[simp] theorem State.clearMs_tpend (s : State) : s.clearMs.tpend = s.tpend := rfl
@[simp] theorem State.clearMs_seq (s : State) : s.clearMs.seq = s.seq := rfl
@[simp] theorem State.clearMs_t0 (s : State) : s.clearMs.t0 = s.t0 := rfl
@[simp] theorem State.clearMs_rxq (s : State) : s.clearMs.rxq = s.rxq := rfl
@[simp] theorem State.clearMs_txlog (s : State) : s.clearMs.txlog = s.txlog := rfl
@[simp] theorem State.clearMs_trace (s : State) : s.clearMs.trace = s.trace := rfl
@[simp] theorem State.clearMs_freeIdx (s : State) : s.clearMs.freeIdx = s.freeIdx := rfl

@[simp] theorem State.drive_cfg (s : State) (d : Direction) (v : Byte) : (s.drive d v).cfg = s.cfg := rfl
@[simp] theorem State.drive_enc (s : State) (d : Direction) (v : Byte) : (s.drive d v).enc = s.enc := rfl
@[simp] theorem State.drive_txReady (s : State) (d : Direction) (v : Byte) : (s.drive d v).txReady = s.txReady := rfl
@[simp] theorem State.drive_prev (s : State) (d : Direction) (v : Byte) : (s.drive d v).prev = s.prev := rfl
@[simp] theorem State.drive_pos (s : State) (d : Direction) (v : Byte) : (s.drive d v).pos = s.pos := rfl
@[simp] theorem State.drive_errcnt (s : State) (d : Direction) (v : Byte) : (s.drive d v).errcnt = s.errcnt := rfl
@[simp] theorem State.drive_ms (s : State) (d : Direction) (v : Byte) : (s.drive d v).ms = s.ms := rfl
@[simp] theorem State.drive_cmd (s : State) (d : Direction) (v : Byte) : (s.drive d v).cmd = s.cmd := rfl
@[simp] theorem State.drive_errst (s : State) (d : Direction) (v : Byte) : (s.drive d v).errst = s.errst := rfl
@[simp] theorem State.drive_elapsed (s : State) (d : Direction) (v : Byte) : (s.drive d v).elapsed = s.elapsed := rfl
@[simp] theorem State.drive_snapPos (s : State) (d : Direction) (v : Byte) : (s.drive d v).snapPos = s.snapPos := rfl
@[simp] theorem State.drive_snapErr (s : State) (d : Direction) (v : Byte) : (s.drive d v).snapErr = s.snapErr := rfl
@[simp] theorem State.drive_duty (s : State) (d : Direction) (v : Byte) : (s.drive d v).duty = v := rfl
@[simp] theorem State.drive_dir (s : State) (d : Direction) (v : Byte) : (s.drive d v).dir = d := rfl
@[simp] theorem State.drive_imask (s : State) (d : Direction) (v : Byte) : (s.drive d v).imask = s.imask := rfl
@[simp] theorem State.drive_dpend (s : State) (d : Direction) (v : Byte) : (s.drive d v).dpend = s.dpend := rfl
@[simp] theorem State.drive_tpend (s : State) (d : Direction) (v : Byte) : (s.drive d v).tpend = s.tpend := rfl
@[simp] theorem State.drive_seq (s : State) (d : Direction) (v : Byte) : (s.drive d v).seq = s.seq := rfl
@[simp] theorem State.drive_t0 (s : State) (d : Direction) (v : Byte) : (s.drive d v).t0 = s.t0 := rfl
@[simp] theorem State.drive_rxq (s : State) (d : Direction) (v : Byte) : (s.drive d v).rxq = s.rxq := rfl
@[simp] theorem State.drive_txlog (s : State) (d : Direction) (v : Byte) : (s.drive d v).txlog = s.txlog := rfl
@[simp] theorem State.drive_trace (s : State) (d : Direction) (v : Byte) : (s.drive d v).trace = s.trace := rfl
@[simp] theorem State.drive_freeIdx (s : State) (d : Direction) (v : Byte) : (s.drive d v).freeIdx = s.freeIdx := rfl

@[simp] theorem State.applyCommand_cfg (s : State) : s.applyCommand.cfg = s.cfg := rfl
@[simp] theorem State.applyCommand_enc (s : State) : s.applyCommand.enc = s.enc := rfl
@[simp] theorem State.applyCommand_txReady (s : State) : s.applyCommand.txReady = s.txReady := rfl
@[simp] theorem State.applyCommand_prev (s : State) : s.applyCommand.prev = s.prev := rfl
@[simp] theorem State.applyCommand_pos (s : State) : s.applyCommand.pos = s.pos := rfl
@[simp] theorem State.applyCommand_errcnt (s : State) : s.applyCommand.errcnt = s.errcnt := rfl
@[simp] theorem State.applyCommand_ms (s : State) : s.applyCommand.ms = s.ms := rfl
@[simp] theorem State.applyCommand_cmd (s : State) : s.applyCommand.cmd = s.cmd := rfl
@[simp] theorem State.applyCommand_errst (s : State) : s.applyCommand.errst = s.errst := rfl
@[simp] theorem State.applyCommand_elapsed (s : State) : s.applyCommand.elapsed = s.elapsed := rfl
@[simp] theorem State.applyCommand_snapPos (s : State) : s.applyCommand.snapPos = s.snapPos := rfl
@[simp] theorem State.applyCommand_snapErr (s : State) : s.applyCommand.snapErr = s.snapErr := rfl
@[simp] theorem State.applyCommand_duty (s : State) : s.applyCommand.duty = gatedDuty s (magnitude s.cmd) := rfl
@[simp] theorem State.applyCommand_dir (s : State) : s.applyCommand.dir = directionOf (reverseFlag s.cmd) := rfl
@[simp] theorem State.applyCommand_imask (s : State) : s.applyCommand.imask = s.imask := rfl
@[simp] theorem State.applyCommand_dpend (s : State) : s.applyCommand.dpend = s.dpend := rfl
@[simp] theorem State.applyCommand_tpend (s : State) : s.applyCommand.tpend = s.tpend := rfl
@[simp] theorem State.applyCommand_seq (s : State) : s.applyCommand.seq = s.seq := rfl
@[simp] theorem State.applyCommand_t0 (s : State) : s.applyCommand.t0 = s.t0 := rfl
@[simp] theorem State.applyCommand_rxq (s : State) : s.applyCommand.rxq = s.rxq := rfl
@[simp] theorem State.applyCommand_txlog (s : State) : s.applyCommand.txlog = s.txlog := rfl
@[simp] theorem State.applyCommand_trace (s : State) : s.applyCommand.trace = s.trace := rfl
@[simp] theorem State.applyCommand_freeIdx (s : State) : s.applyCommand.freeIdx = s.freeIdx := rfl

@[simp] theorem State.forceZero_cfg (s : State) : s.forceZero.cfg = s.cfg := rfl
@[simp] theorem State.forceZero_enc (s : State) : s.forceZero.enc = s.enc := rfl
@[simp] theorem State.forceZero_txReady (s : State) : s.forceZero.txReady = s.txReady := rfl
@[simp] theorem State.forceZero_prev (s : State) : s.forceZero.prev = s.prev := rfl
@[simp] theorem State.forceZero_pos (s : State) : s.forceZero.pos = s.pos := rfl
@[simp] theorem State.forceZero_errcnt (s : State) : s.forceZero.errcnt = s.errcnt := rfl
@[simp] theorem State.forceZero_ms (s : State) : s.forceZero.ms = s.ms := rfl
@[simp] theorem State.forceZero_cmd (s : State) : s.forceZero.cmd = s.cmd := rfl
@[simp] theorem State.forceZero_errst (s : State) : s.forceZero.errst = s.errst := rfl
@[simp] theorem State.forceZero_elapsed (s : State) : s.forceZero.elapsed = s.elapsed := rfl
@[simp] theorem State.forceZero_snapPos (s : State) : s.forceZero.snapPos = s.snapPos := rfl
@[simp] theorem State.forceZero_snapErr (s : State) : s.forceZero.snapErr = s.snapErr := rfl
@[simp] theorem State.forceZero_duty (s : State) : s.forceZero.duty = 0#8 := rfl
@[simp] theorem State.forceZero_dir (s : State) : s.forceZero.dir = s.dir := rfl
@[simp] theorem State.forceZero_imask (s : State) : s.forceZero.imask = s.imask := rfl
@[simp] theorem State.forceZero_dpend (s : State) : s.forceZero.dpend = s.dpend := rfl
@[simp] theorem State.forceZero_tpend (s : State) : s.forceZero.tpend = s.tpend := rfl
@[simp] theorem State.forceZero_seq (s : State) : s.forceZero.seq = s.seq := rfl
@[simp] theorem State.forceZero_t0 (s : State) : s.forceZero.t0 = s.t0 := rfl
@[simp] theorem State.forceZero_rxq (s : State) : s.forceZero.rxq = s.rxq := rfl
@[simp] theorem State.forceZero_txlog (s : State) : s.forceZero.txlog = s.txlog := rfl
@[simp] theorem State.forceZero_trace (s : State) : s.forceZero.trace = s.trace := rfl
@[simp] theorem State.forceZero_freeIdx (s : State) : s.forceZero.freeIdx = s.freeIdx := rfl

@[simp] theorem State.record_cfg (s : State) (v : Byte) : (s.record v).cfg = s.cfg := rfl
@[simp] theorem State.record_enc (s : State) (v : Byte) : (s.record v).enc = s.enc := rfl
@[simp] theorem State.record_txReady (s : State) (v : Byte) : (s.record v).txReady = s.txReady := rfl
@[simp] theorem State.record_prev (s : State) (v : Byte) : (s.record v).prev = s.prev := rfl
@[simp] theorem State.record_pos (s : State) (v : Byte) : (s.record v).pos = s.pos := rfl
@[simp] theorem State.record_errcnt (s : State) (v : Byte) : (s.record v).errcnt = s.errcnt := rfl
@[simp] theorem State.record_ms (s : State) (v : Byte) : (s.record v).ms = s.ms := rfl
@[simp] theorem State.record_cmd (s : State) (v : Byte) : (s.record v).cmd = s.cmd := rfl
@[simp] theorem State.record_errst (s : State) (v : Byte) : (s.record v).errst = s.errst := rfl
@[simp] theorem State.record_elapsed (s : State) (v : Byte) : (s.record v).elapsed = v := rfl
@[simp] theorem State.record_snapPos (s : State) (v : Byte) : (s.record v).snapPos = s.snapPos := rfl
@[simp] theorem State.record_snapErr (s : State) (v : Byte) : (s.record v).snapErr = s.snapErr := rfl
@[simp] theorem State.record_duty (s : State) (v : Byte) : (s.record v).duty = s.duty := rfl
@[simp] theorem State.record_dir (s : State) (v : Byte) : (s.record v).dir = s.dir := rfl
@[simp] theorem State.record_imask (s : State) (v : Byte) : (s.record v).imask = s.imask := rfl
@[simp] theorem State.record_dpend (s : State) (v : Byte) : (s.record v).dpend = s.dpend := rfl
@[simp] theorem State.record_tpend (s : State) (v : Byte) : (s.record v).tpend = s.tpend := rfl
@[simp] theorem State.record_seq (s : State) (v : Byte) : (s.record v).seq = s.seq := rfl
@[simp] theorem State.record_t0 (s : State) (v : Byte) : (s.record v).t0 = s.t0 := rfl
@[simp] theorem State.record_rxq (s : State) (v : Byte) : (s.record v).rxq = s.rxq := rfl
@[simp] theorem State.record_txlog (s : State) (v : Byte) : (s.record v).txlog = s.txlog := rfl
@[simp] theorem State.record_trace (s : State) (v : Byte) : (s.record v).trace = s.trace := rfl
@[simp] theorem State.record_freeIdx (s : State) (v : Byte) : (s.record v).freeIdx = s.freeIdx := rfl

@[simp] theorem State.storeCommand_cfg (s : State) (v : Byte) : (s.storeCommand v).cfg = s.cfg := rfl
@[simp] theorem State.storeCommand_enc (s : State) (v : Byte) : (s.storeCommand v).enc = s.enc := rfl
@[simp] theorem State.storeCommand_txReady (s : State) (v : Byte) : (s.storeCommand v).txReady = s.txReady := rfl
@[simp] theorem State.storeCommand_prev (s : State) (v : Byte) : (s.storeCommand v).prev = s.prev := rfl
@[simp] theorem State.storeCommand_pos (s : State) (v : Byte) : (s.storeCommand v).pos = s.pos := rfl
@[simp] theorem State.storeCommand_errcnt (s : State) (v : Byte) : (s.storeCommand v).errcnt = s.errcnt := rfl
@[simp] theorem State.storeCommand_ms (s : State) (v : Byte) : (s.storeCommand v).ms = s.ms := rfl
@[simp] theorem State.storeCommand_cmd (s : State) (v : Byte) : (s.storeCommand v).cmd = v := rfl
@[simp] theorem State.storeCommand_errst (s : State) (v : Byte) : (s.storeCommand v).errst = s.errst := rfl
@[simp] theorem State.storeCommand_elapsed (s : State) (v : Byte) : (s.storeCommand v).elapsed = s.elapsed := rfl
@[simp] theorem State.storeCommand_snapPos (s : State) (v : Byte) : (s.storeCommand v).snapPos = s.snapPos := rfl
@[simp] theorem State.storeCommand_snapErr (s : State) (v : Byte) : (s.storeCommand v).snapErr = s.snapErr := rfl
@[simp] theorem State.storeCommand_duty (s : State) (v : Byte) : (s.storeCommand v).duty = s.duty := rfl
@[simp] theorem State.storeCommand_dir (s : State) (v : Byte) : (s.storeCommand v).dir = s.dir := rfl
@[simp] theorem State.storeCommand_imask (s : State) (v : Byte) : (s.storeCommand v).imask = s.imask := rfl
@[simp] theorem State.storeCommand_dpend (s : State) (v : Byte) : (s.storeCommand v).dpend = s.dpend := rfl
@[simp] theorem State.storeCommand_tpend (s : State) (v : Byte) : (s.storeCommand v).tpend = s.tpend := rfl
@[simp] theorem State.storeCommand_seq (s : State) (v : Byte) : (s.storeCommand v).seq = s.seq := rfl
@[simp] theorem State.storeCommand_t0 (s : State) (v : Byte) : (s.storeCommand v).t0 = s.t0 := rfl
@[simp] theorem State.storeCommand_rxq (s : State) (v : Byte) : (s.storeCommand v).rxq = s.rxq := rfl
@[simp] theorem State.storeCommand_txlog (s : State) (v : Byte) : (s.storeCommand v).txlog = s.txlog := rfl
@[simp] theorem State.storeCommand_trace (s : State) (v : Byte) : (s.storeCommand v).trace = s.trace := rfl
@[simp] theorem State.storeCommand_freeIdx (s : State) (v : Byte) : (s.storeCommand v).freeIdx = s.freeIdx := rfl

@[simp] theorem State.sent_cfg (s : State) (b : Byte) : (s.sent b).cfg = s.cfg := rfl
@[simp] theorem State.sent_enc (s : State) (b : Byte) : (s.sent b).enc = s.enc := rfl
@[simp] theorem State.sent_txReady (s : State) (b : Byte) : (s.sent b).txReady = s.txReady := rfl
@[simp] theorem State.sent_prev (s : State) (b : Byte) : (s.sent b).prev = s.prev := rfl
@[simp] theorem State.sent_pos (s : State) (b : Byte) : (s.sent b).pos = s.pos := rfl
@[simp] theorem State.sent_errcnt (s : State) (b : Byte) : (s.sent b).errcnt = s.errcnt := rfl
@[simp] theorem State.sent_ms (s : State) (b : Byte) : (s.sent b).ms = s.ms := rfl
@[simp] theorem State.sent_cmd (s : State) (b : Byte) : (s.sent b).cmd = s.cmd := rfl
@[simp] theorem State.sent_errst (s : State) (b : Byte) : (s.sent b).errst = s.errst := rfl
@[simp] theorem State.sent_elapsed (s : State) (b : Byte) : (s.sent b).elapsed = s.elapsed := rfl
@[simp] theorem State.sent_snapPos (s : State) (b : Byte) : (s.sent b).snapPos = s.snapPos := rfl
@[simp] theorem State.sent_snapErr (s : State) (b : Byte) : (s.sent b).snapErr = s.snapErr := rfl
@[simp] theorem State.sent_duty (s : State) (b : Byte) : (s.sent b).duty = s.duty := rfl
@[simp] theorem State.sent_dir (s : State) (b : Byte) : (s.sent b).dir = s.dir := rfl
@[simp] theorem State.sent_imask (s : State) (b : Byte) : (s.sent b).imask = s.imask := rfl
@[simp] theorem State.sent_dpend (s : State) (b : Byte) : (s.sent b).dpend = s.dpend := rfl
@[simp] theorem State.sent_tpend (s : State) (b : Byte) : (s.sent b).tpend = s.tpend := rfl
@[simp] theorem State.sent_seq (s : State) (b : Byte) : (s.sent b).seq = s.seq := rfl
@[simp] theorem State.sent_t0 (s : State) (b : Byte) : (s.sent b).t0 = s.t0 := rfl
@[simp] theorem State.sent_rxq (s : State) (b : Byte) : (s.sent b).rxq = s.rxq := rfl
@[simp] theorem State.sent_txlog (s : State) (b : Byte) : (s.sent b).txlog = s.txlog ++ [b] := rfl
@[simp] theorem State.sent_trace (s : State) (b : Byte) : (s.sent b).trace = s.trace := rfl
@[simp] theorem State.sent_freeIdx (s : State) (b : Byte) : (s.sent b).freeIdx = s.freeIdx := rfl

@[simp] theorem State.drawn_cfg (s : State) : s.drawn.cfg = s.cfg := rfl
@[simp] theorem State.drawn_enc (s : State) : s.drawn.enc = s.enc := rfl
@[simp] theorem State.drawn_txReady (s : State) : s.drawn.txReady = s.txReady := rfl
@[simp] theorem State.drawn_prev (s : State) : s.drawn.prev = s.prev := rfl
@[simp] theorem State.drawn_pos (s : State) : s.drawn.pos = s.pos := rfl
@[simp] theorem State.drawn_errcnt (s : State) : s.drawn.errcnt = s.errcnt := rfl
@[simp] theorem State.drawn_ms (s : State) : s.drawn.ms = s.ms := rfl
@[simp] theorem State.drawn_cmd (s : State) : s.drawn.cmd = s.cmd := rfl
@[simp] theorem State.drawn_errst (s : State) : s.drawn.errst = s.errst := rfl
@[simp] theorem State.drawn_elapsed (s : State) : s.drawn.elapsed = s.elapsed := rfl
@[simp] theorem State.drawn_snapPos (s : State) : s.drawn.snapPos = s.snapPos := rfl
@[simp] theorem State.drawn_snapErr (s : State) : s.drawn.snapErr = s.snapErr := rfl
@[simp] theorem State.drawn_duty (s : State) : s.drawn.duty = s.duty := rfl
@[simp] theorem State.drawn_dir (s : State) : s.drawn.dir = s.dir := rfl
@[simp] theorem State.drawn_imask (s : State) : s.drawn.imask = s.imask := rfl
@[simp] theorem State.drawn_dpend (s : State) : s.drawn.dpend = s.dpend := rfl
@[simp] theorem State.drawn_tpend (s : State) : s.drawn.tpend = s.tpend := rfl
@[simp] theorem State.drawn_seq (s : State) : s.drawn.seq = s.seq := rfl
@[simp] theorem State.drawn_t0 (s : State) : s.drawn.t0 = s.t0 := rfl
@[simp] theorem State.drawn_rxq (s : State) : s.drawn.rxq = s.rxq := rfl
@[simp] theorem State.drawn_txlog (s : State) : s.drawn.txlog = s.txlog := rfl
@[simp] theorem State.drawn_trace (s : State) : s.drawn.trace = s.trace := rfl
@[simp] theorem State.drawn_freeIdx (s : State) : s.drawn.freeIdx = s.freeIdx + 1 := rfl

@[simp] theorem State.request_edge_cfg (s : State) : (s.request .edge).cfg = s.cfg := rfl
@[simp] theorem State.request_edge_enc (s : State) : (s.request .edge).enc = s.enc := rfl
@[simp] theorem State.request_edge_txReady (s : State) : (s.request .edge).txReady = s.txReady := rfl
@[simp] theorem State.request_edge_prev (s : State) : (s.request .edge).prev = s.prev := rfl
@[simp] theorem State.request_edge_pos (s : State) : (s.request .edge).pos = s.pos := rfl
@[simp] theorem State.request_edge_errcnt (s : State) : (s.request .edge).errcnt = s.errcnt := rfl
@[simp] theorem State.request_edge_ms (s : State) : (s.request .edge).ms = s.ms := rfl
@[simp] theorem State.request_edge_cmd (s : State) : (s.request .edge).cmd = s.cmd := rfl
@[simp] theorem State.request_edge_errst (s : State) : (s.request .edge).errst = s.errst := rfl
@[simp] theorem State.request_edge_elapsed (s : State) : (s.request .edge).elapsed = s.elapsed := rfl
@[simp] theorem State.request_edge_snapPos (s : State) : (s.request .edge).snapPos = s.snapPos := rfl
@[simp] theorem State.request_edge_snapErr (s : State) : (s.request .edge).snapErr = s.snapErr := rfl
@[simp] theorem State.request_edge_duty (s : State) : (s.request .edge).duty = s.duty := rfl
@[simp] theorem State.request_edge_dir (s : State) : (s.request .edge).dir = s.dir := rfl
@[simp] theorem State.request_edge_imask (s : State) : (s.request .edge).imask = s.imask := rfl
@[simp] theorem State.request_edge_dpend (s : State) : (s.request .edge).dpend = true := rfl
@[simp] theorem State.request_edge_tpend (s : State) : (s.request .edge).tpend = s.tpend := rfl
@[simp] theorem State.request_edge_seq (s : State) : (s.request .edge).seq = s.seq := rfl
@[simp] theorem State.request_edge_t0 (s : State) : (s.request .edge).t0 = s.t0 := rfl
@[simp] theorem State.request_edge_rxq (s : State) : (s.request .edge).rxq = s.rxq := rfl
@[simp] theorem State.request_edge_txlog (s : State) : (s.request .edge).txlog = s.txlog := rfl
@[simp] theorem State.request_edge_trace (s : State) : (s.request .edge).trace = s.trace := rfl
@[simp] theorem State.request_edge_freeIdx (s : State) : (s.request .edge).freeIdx = s.freeIdx := rfl

@[simp] theorem State.request_tick_cfg (s : State) : (s.request .tick).cfg = s.cfg := rfl
@[simp] theorem State.request_tick_enc (s : State) : (s.request .tick).enc = s.enc := rfl
@[simp] theorem State.request_tick_txReady (s : State) : (s.request .tick).txReady = s.txReady := rfl
@[simp] theorem State.request_tick_prev (s : State) : (s.request .tick).prev = s.prev := rfl
@[simp] theorem State.request_tick_pos (s : State) : (s.request .tick).pos = s.pos := rfl
@[simp] theorem State.request_tick_errcnt (s : State) : (s.request .tick).errcnt = s.errcnt := rfl
@[simp] theorem State.request_tick_ms (s : State) : (s.request .tick).ms = s.ms := rfl
@[simp] theorem State.request_tick_cmd (s : State) : (s.request .tick).cmd = s.cmd := rfl
@[simp] theorem State.request_tick_errst (s : State) : (s.request .tick).errst = s.errst := rfl
@[simp] theorem State.request_tick_elapsed (s : State) : (s.request .tick).elapsed = s.elapsed := rfl
@[simp] theorem State.request_tick_snapPos (s : State) : (s.request .tick).snapPos = s.snapPos := rfl
@[simp] theorem State.request_tick_snapErr (s : State) : (s.request .tick).snapErr = s.snapErr := rfl
@[simp] theorem State.request_tick_duty (s : State) : (s.request .tick).duty = s.duty := rfl
@[simp] theorem State.request_tick_dir (s : State) : (s.request .tick).dir = s.dir := rfl
@[simp] theorem State.request_tick_imask (s : State) : (s.request .tick).imask = s.imask := rfl
@[simp] theorem State.request_tick_dpend (s : State) : (s.request .tick).dpend = s.dpend := rfl
@[simp] theorem State.request_tick_tpend (s : State) : (s.request .tick).tpend = true := rfl
@[simp] theorem State.request_tick_seq (s : State) : (s.request .tick).seq = s.seq := rfl
@[simp] theorem State.request_tick_t0 (s : State) : (s.request .tick).t0 = s.t0 := rfl
@[simp] theorem State.request_tick_rxq (s : State) : (s.request .tick).rxq = s.rxq := rfl
@[simp] theorem State.request_tick_txlog (s : State) : (s.request .tick).txlog = s.txlog := rfl
@[simp] theorem State.request_tick_trace (s : State) : (s.request .tick).trace = s.trace := rfl
@[simp] theorem State.request_tick_freeIdx (s : State) : (s.request .tick).freeIdx = s.freeIdx := rfl

@[simp] theorem State.clearPending_edge_cfg (s : State) : (s.clearPending .edge).cfg = s.cfg := rfl
@[simp] theorem State.clearPending_edge_enc (s : State) : (s.clearPending .edge).enc = s.enc := rfl
@[simp] theorem State.clearPending_edge_txReady (s : State) : (s.clearPending .edge).txReady = s.txReady := rfl
@[simp] theorem State.clearPending_edge_prev (s : State) : (s.clearPending .edge).prev = s.prev := rfl
@[simp] theorem State.clearPending_edge_pos (s : State) : (s.clearPending .edge).pos = s.pos := rfl
@[simp] theorem State.clearPending_edge_errcnt (s : State) : (s.clearPending .edge).errcnt = s.errcnt := rfl
@[simp] theorem State.clearPending_edge_ms (s : State) : (s.clearPending .edge).ms = s.ms := rfl
@[simp] theorem State.clearPending_edge_cmd (s : State) : (s.clearPending .edge).cmd = s.cmd := rfl
@[simp] theorem State.clearPending_edge_errst (s : State) : (s.clearPending .edge).errst = s.errst := rfl
@[simp] theorem State.clearPending_edge_elapsed (s : State) : (s.clearPending .edge).elapsed = s.elapsed := rfl
@[simp] theorem State.clearPending_edge_snapPos (s : State) : (s.clearPending .edge).snapPos = s.snapPos := rfl
@[simp] theorem State.clearPending_edge_snapErr (s : State) : (s.clearPending .edge).snapErr = s.snapErr := rfl
@[simp] theorem State.clearPending_edge_duty (s : State) : (s.clearPending .edge).duty = s.duty := rfl
@[simp] theorem State.clearPending_edge_dir (s : State) : (s.clearPending .edge).dir = s.dir := rfl
@[simp] theorem State.clearPending_edge_imask (s : State) : (s.clearPending .edge).imask = s.imask := rfl
@[simp] theorem State.clearPending_edge_dpend (s : State) : (s.clearPending .edge).dpend = false := rfl
@[simp] theorem State.clearPending_edge_tpend (s : State) : (s.clearPending .edge).tpend = s.tpend := rfl
@[simp] theorem State.clearPending_edge_seq (s : State) : (s.clearPending .edge).seq = s.seq := rfl
@[simp] theorem State.clearPending_edge_t0 (s : State) : (s.clearPending .edge).t0 = s.t0 := rfl
@[simp] theorem State.clearPending_edge_rxq (s : State) : (s.clearPending .edge).rxq = s.rxq := rfl
@[simp] theorem State.clearPending_edge_txlog (s : State) : (s.clearPending .edge).txlog = s.txlog := rfl
@[simp] theorem State.clearPending_edge_trace (s : State) : (s.clearPending .edge).trace = s.trace := rfl
@[simp] theorem State.clearPending_edge_freeIdx (s : State) : (s.clearPending .edge).freeIdx = s.freeIdx := rfl

@[simp] theorem State.clearPending_tick_cfg (s : State) : (s.clearPending .tick).cfg = s.cfg := rfl
@[simp] theorem State.clearPending_tick_enc (s : State) : (s.clearPending .tick).enc = s.enc := rfl
@[simp] theorem State.clearPending_tick_txReady (s : State) : (s.clearPending .tick).txReady = s.txReady := rfl
@[simp] theorem State.clearPending_tick_prev (s : State) : (s.clearPending .tick).prev = s.prev := rfl
@[simp] theorem State.clearPending_tick_pos (s : State) : (s.clearPending .tick).pos = s.pos := rfl
@[simp] theorem State.clearPending_tick_errcnt (s : State) : (s.clearPending .tick).errcnt = s.errcnt := rfl
@[simp] theorem State.clearPending_tick_ms (s : State) : (s.clearPending .tick).ms = s.ms := rfl
@[simp] theorem State.clearPending_tick_cmd (s : State) : (s.clearPending .tick).cmd = s.cmd := rfl
@[simp] theorem State.clearPending_tick_errst (s : State) : (s.clearPending .tick).errst = s.errst := rfl
@[simp] theorem State.clearPending_tick_elapsed (s : State) : (s.clearPending .tick).elapsed = s.elapsed := rfl
@[simp] theorem State.clearPending_tick_snapPos (s : State) : (s.clearPending .tick).snapPos = s.snapPos := rfl
@[simp] theorem State.clearPending_tick_snapErr (s : State) : (s.clearPending .tick).snapErr = s.snapErr := rfl
@[simp] theorem State.clearPending_tick_duty (s : State) : (s.clearPending .tick).duty = s.duty := rfl
@[simp] theorem State.clearPending_tick_dir (s : State) : (s.clearPending .tick).dir = s.dir := rfl
@[simp] theorem State.clearPending_tick_imask (s : State) : (s.clearPending .tick).imask = s.imask := rfl
@[simp] theorem State.clearPending_tick_dpend (s : State) : (s.clearPending .tick).dpend = s.dpend := rfl
@[simp] theorem State.clearPending_tick_tpend (s : State) : (s.clearPending .tick).tpend = false := rfl
@[simp] theorem State.clearPending_tick_seq (s : State) : (s.clearPending .tick).seq = s.seq := rfl
@[simp] theorem State.clearPending_tick_t0 (s : State) : (s.clearPending .tick).t0 = s.t0 := rfl
@[simp] theorem State.clearPending_tick_rxq (s : State) : (s.clearPending .tick).rxq = s.rxq := rfl
@[simp] theorem State.clearPending_tick_txlog (s : State) : (s.clearPending .tick).txlog = s.txlog := rfl
@[simp] theorem State.clearPending_tick_trace (s : State) : (s.clearPending .tick).trace = s.trace := rfl
@[simp] theorem State.clearPending_tick_freeIdx (s : State) : (s.clearPending .tick).freeIdx = s.freeIdx := rfl

@[simp] theorem State.raiseTimeout_cfg (s : State) : s.raiseTimeout.cfg = s.cfg := by
  unfold State.raiseTimeout; split <;> rfl
@[simp] theorem State.raiseTimeout_enc (s : State) : s.raiseTimeout.enc = s.enc := by
  unfold State.raiseTimeout; split <;> rfl
@[simp] theorem State.raiseTimeout_txReady (s : State) : s.raiseTimeout.txReady = s.txReady := by
  unfold State.raiseTimeout; split <;> rfl
@[simp] theorem State.raiseTimeout_prev (s : State) : s.raiseTimeout.prev = s.prev := by
  unfold State.raiseTimeout; split <;> rfl
@[simp] theorem State.raiseTimeout_pos (s : State) : s.raiseTimeout.pos = s.pos := by
  unfold State.raiseTimeout; split <;> rfl
@[simp] theorem State.raiseTimeout_errcnt (s : State) : s.raiseTimeout.errcnt = s.errcnt := by
  unfold State.raiseTimeout; split <;> rfl
@[simp] theorem State.raiseTimeout_ms (s : State) : s.raiseTimeout.ms = s.ms := by
  unfold State.raiseTimeout; split <;> rfl
@[simp] theorem State.raiseTimeout_cmd (s : State) : s.raiseTimeout.cmd = s.cmd := by
  unfold State.raiseTimeout; split <;> rfl
@[simp] theorem State.raiseTimeout_errst (s : State) : s.raiseTimeout.errst = if s.errst = .noError then .commandTimeout else s.errst := by
  unfold State.raiseTimeout; split <;> simp_all
@[simp] theorem State.raiseTimeout_elapsed (s : State) : s.raiseTimeout.elapsed = s.elapsed := by
  unfold State.raiseTimeout; split <;> rfl
@[simp] theorem State.raiseTimeout_snapPos (s : State) : s.raiseTimeout.snapPos = s.snapPos := by
  unfold State.raiseTimeout; split <;> rfl
@[simp] theorem State.raiseTimeout_snapErr (s : State) : s.raiseTimeout.snapErr = s.snapErr := by
  unfold State.raiseTimeout; split <;> rfl
@[simp] theorem State.raiseTimeout_duty (s : State) : s.raiseTimeout.duty = s.duty := by
  unfold State.raiseTimeout; split <;> rfl
@[simp] theorem State.raiseTimeout_dir (s : State) : s.raiseTimeout.dir = s.dir := by
  unfold State.raiseTimeout; split <;> rfl
@[simp] theorem State.raiseTimeout_imask (s : State) : s.raiseTimeout.imask = s.imask := by
  unfold State.raiseTimeout; split <;> rfl
@[simp] theorem State.raiseTimeout_dpend (s : State) : s.raiseTimeout.dpend = s.dpend := by
  unfold State.raiseTimeout; split <;> rfl
@[simp] theorem State.raiseTimeout_tpend (s : State) : s.raiseTimeout.tpend = s.tpend := by
  unfold State.raiseTimeout; split <;> rfl
@[simp] theorem State.raiseTimeout_seq (s : State) : s.raiseTimeout.seq = s.seq := by
  unfold State.raiseTimeout; split <;> rfl
@[simp] theorem State.raiseTimeout_t0 (s : State) : s.raiseTimeout.t0 = s.t0 := by
  unfold State.raiseTimeout; split <;> rfl
@[simp] theorem State.raiseTimeout_rxq (s : State) : s.raiseTimeout.rxq = s.rxq := by
  unfold State.raiseTimeout; split <;> rfl
@[simp] theorem State.raiseTimeout_txlog (s : State) : s.raiseTimeout.txlog = s.txlog := by
  unfold State.raiseTimeout; split <;> rfl
@[simp] theorem State.raiseTimeout_trace (s : State) : s.raiseTimeout.trace = s.trace := by
  unfold State.raiseTimeout; split <;> rfl
@[simp] theorem State.raiseTimeout_freeIdx (s : State) : s.raiseTimeout.freeIdx = s.freeIdx := by
  unfold State.raiseTimeout; split <;> rfl

@[simp] theorem State.acknowledge_cfg (s : State) : s.acknowledge.cfg = s.cfg := by
  unfold State.acknowledge; split <;> rfl
@[simp] theorem State.acknowledge_enc (s : State) : s.acknowledge.enc = s.enc := by
  unfold State.acknowledge; split <;> rfl
@[simp] theorem State.acknowledge_txReady (s : State) : s.acknowledge.txReady = s.txReady := by
  unfold State.acknowledge; split <;> rfl
@[simp] theorem State.acknowledge_prev (s : State) : s.acknowledge.prev = s.prev := by
  unfold State.acknowledge; split <;> rfl
@[simp] theorem State.acknowledge_pos (s : State) : s.acknowledge.pos = s.pos := by
  unfold State.acknowledge; split <;> rfl
@[simp] theorem State.acknowledge_errcnt (s : State) : s.acknowledge.errcnt = s.errcnt := by
  unfold State.acknowledge; split <;> rfl
@[simp] theorem State.acknowledge_ms (s : State) : s.acknowledge.ms = s.ms := by
  unfold State.acknowledge; split <;> rfl
@[simp] theorem State.acknowledge_cmd (s : State) : s.acknowledge.cmd = s.cmd := by
  unfold State.acknowledge; split <;> rfl
@[simp] theorem State.acknowledge_errst (s : State) : s.acknowledge.errst = if s.cmd = Config.sentinel then .noError else s.errst := by
  unfold State.acknowledge; split <;> simp_all
@[simp] theorem State.acknowledge_elapsed (s : State) : s.acknowledge.elapsed = s.elapsed := by
  unfold State.acknowledge; split <;> rfl
@[simp] theorem State.acknowledge_snapPos (s : State) : s.acknowledge.snapPos = s.snapPos := by
  unfold State.acknowledge; split <;> rfl
@[simp] theorem State.acknowledge_snapErr (s : State) : s.acknowledge.snapErr = s.snapErr := by
  unfold State.acknowledge; split <;> rfl
@[simp] theorem State.acknowledge_duty (s : State) : s.acknowledge.duty = s.duty := by
  unfold State.acknowledge; split <;> rfl
@[simp] theorem State.acknowledge_dir (s : State) : s.acknowledge.dir = s.dir := by
  unfold State.acknowledge; split <;> rfl
@[simp] theorem State.acknowledge_imask (s : State) : s.acknowledge.imask = s.imask := by
  unfold State.acknowledge; split <;> rfl
@[simp] theorem State.acknowledge_dpend (s : State) : s.acknowledge.dpend = s.dpend := by
  unfold State.acknowledge; split <;> rfl
@[simp] theorem State.acknowledge_tpend (s : State) : s.acknowledge.tpend = s.tpend := by
  unfold State.acknowledge; split <;> rfl
@[simp] theorem State.acknowledge_seq (s : State) : s.acknowledge.seq = s.seq := by
  unfold State.acknowledge; split <;> rfl
@[simp] theorem State.acknowledge_t0 (s : State) : s.acknowledge.t0 = s.t0 := by
  unfold State.acknowledge; split <;> rfl
@[simp] theorem State.acknowledge_rxq (s : State) : s.acknowledge.rxq = s.rxq := by
  unfold State.acknowledge; split <;> rfl
@[simp] theorem State.acknowledge_txlog (s : State) : s.acknowledge.txlog = s.txlog := by
  unfold State.acknowledge; split <;> rfl
@[simp] theorem State.acknowledge_trace (s : State) : s.acknowledge.trace = s.trace := by
  unfold State.acknowledge; split <;> rfl
@[simp] theorem State.acknowledge_freeIdx (s : State) : s.acknowledge.freeIdx = s.freeIdx := by
  unfold State.acknowledge; split <;> rfl

@[simp] theorem State.moveLines_cfg (s : State) (smp : Sample) : (s.moveLines smp).cfg = s.cfg := by
  unfold State.moveLines State.request; split <;> rfl
@[simp] theorem State.moveLines_enc (s : State) (smp : Sample) : (s.moveLines smp).enc = smp := rfl
@[simp] theorem State.moveLines_txReady (s : State) (smp : Sample) : (s.moveLines smp).txReady = s.txReady := by
  unfold State.moveLines State.request; split <;> rfl
@[simp] theorem State.moveLines_prev (s : State) (smp : Sample) : (s.moveLines smp).prev = s.prev := by
  unfold State.moveLines State.request; split <;> rfl
@[simp] theorem State.moveLines_pos (s : State) (smp : Sample) : (s.moveLines smp).pos = s.pos := by
  unfold State.moveLines State.request; split <;> rfl
@[simp] theorem State.moveLines_errcnt (s : State) (smp : Sample) : (s.moveLines smp).errcnt = s.errcnt := by
  unfold State.moveLines State.request; split <;> rfl
@[simp] theorem State.moveLines_ms (s : State) (smp : Sample) : (s.moveLines smp).ms = s.ms := by
  unfold State.moveLines State.request; split <;> rfl
@[simp] theorem State.moveLines_cmd (s : State) (smp : Sample) : (s.moveLines smp).cmd = s.cmd := by
  unfold State.moveLines State.request; split <;> rfl
@[simp] theorem State.moveLines_errst (s : State) (smp : Sample) : (s.moveLines smp).errst = s.errst := by
  unfold State.moveLines State.request; split <;> rfl
@[simp] theorem State.moveLines_elapsed (s : State) (smp : Sample) : (s.moveLines smp).elapsed = s.elapsed := by
  unfold State.moveLines State.request; split <;> rfl
@[simp] theorem State.moveLines_snapPos (s : State) (smp : Sample) : (s.moveLines smp).snapPos = s.snapPos := by
  unfold State.moveLines State.request; split <;> rfl
@[simp] theorem State.moveLines_snapErr (s : State) (smp : Sample) : (s.moveLines smp).snapErr = s.snapErr := by
  unfold State.moveLines State.request; split <;> rfl
@[simp] theorem State.moveLines_duty (s : State) (smp : Sample) : (s.moveLines smp).duty = s.duty := by
  unfold State.moveLines State.request; split <;> rfl
@[simp] theorem State.moveLines_dir (s : State) (smp : Sample) : (s.moveLines smp).dir = s.dir := by
  unfold State.moveLines State.request; split <;> rfl
@[simp] theorem State.moveLines_imask (s : State) (smp : Sample) : (s.moveLines smp).imask = s.imask := by
  unfold State.moveLines State.request; split <;> rfl
@[simp] theorem State.moveLines_dpend (s : State) (smp : Sample) : (s.moveLines smp).dpend = if smp = s.enc then s.dpend else true := by
  unfold State.moveLines State.request; split <;> simp_all
@[simp] theorem State.moveLines_tpend (s : State) (smp : Sample) : (s.moveLines smp).tpend = s.tpend := by
  unfold State.moveLines State.request; split <;> rfl
@[simp] theorem State.moveLines_seq (s : State) (smp : Sample) : (s.moveLines smp).seq = s.seq := by
  unfold State.moveLines State.request; split <;> rfl
@[simp] theorem State.moveLines_t0 (s : State) (smp : Sample) : (s.moveLines smp).t0 = s.t0 := by
  unfold State.moveLines State.request; split <;> rfl
@[simp] theorem State.moveLines_rxq (s : State) (smp : Sample) : (s.moveLines smp).rxq = s.rxq := by
  unfold State.moveLines State.request; split <;> rfl
@[simp] theorem State.moveLines_txlog (s : State) (smp : Sample) : (s.moveLines smp).txlog = s.txlog := by
  unfold State.moveLines State.request; split <;> rfl
@[simp] theorem State.moveLines_trace (s : State) (smp : Sample) : (s.moveLines smp).trace = s.trace := by
  unfold State.moveLines State.request; split <;> rfl
@[simp] theorem State.moveLines_freeIdx (s : State) (smp : Sample) : (s.moveLines smp).freeIdx = s.freeIdx := by
  unfold State.moveLines State.request; split <;> rfl

@[simp] theorem State.powerOn_cfg (c : Config) (e : Sample) : (State.powerOn c e).cfg = c := rfl
@[simp] theorem State.powerOn_enc (c : Config) (e : Sample) : (State.powerOn c e).enc = e := rfl
@[simp] theorem State.powerOn_txReady (c : Config) (e : Sample) : (State.powerOn c e).txReady = true := rfl
@[simp] theorem State.powerOn_prev (c : Config) (e : Sample) : (State.powerOn c e).prev = c.prevReset := rfl
@[simp] theorem State.powerOn_pos (c : Config) (e : Sample) : (State.powerOn c e).pos = 0#16 := rfl
@[simp] theorem State.powerOn_errcnt (c : Config) (e : Sample) : (State.powerOn c e).errcnt = 0#8 := rfl
@[simp] theorem State.powerOn_ms (c : Config) (e : Sample) : (State.powerOn c e).ms = 0#8 := rfl
@[simp] theorem State.powerOn_cmd (c : Config) (e : Sample) : (State.powerOn c e).cmd = 0#8 := rfl
@[simp] theorem State.powerOn_errst (c : Config) (e : Sample) : (State.powerOn c e).errst = .poweredOn := rfl
@[simp] theorem State.powerOn_elapsed (c : Config) (e : Sample) : (State.powerOn c e).elapsed = 0#8 := rfl
@[simp] theorem State.powerOn_snapPos (c : Config) (e : Sample) : (State.powerOn c e).snapPos = 0#16 := rfl
@[simp] theorem State.powerOn_snapErr (c : Config) (e : Sample) : (State.powerOn c e).snapErr = 0#8 := rfl
@[simp] theorem State.powerOn_duty (c : Config) (e : Sample) : (State.powerOn c e).duty = 0#8 := rfl
@[simp] theorem State.powerOn_dir (c : Config) (e : Sample) : (State.powerOn c e).dir = .forward := rfl
@[simp] theorem State.powerOn_imask (c : Config) (e : Sample) : (State.powerOn c e).imask = false := rfl
@[simp] theorem State.powerOn_dpend (c : Config) (e : Sample) : (State.powerOn c e).dpend = false := rfl
@[simp] theorem State.powerOn_tpend (c : Config) (e : Sample) : (State.powerOn c e).tpend = false := rfl
@[simp] theorem State.powerOn_seq (c : Config) (e : Sample) : (State.powerOn c e).seq = .s1Enter := rfl
@[simp] theorem State.powerOn_t0 (c : Config) (e : Sample) : (State.powerOn c e).t0 = 0#8 := rfl
@[simp] theorem State.powerOn_rxq (c : Config) (e : Sample) : (State.powerOn c e).rxq = [] := rfl
@[simp] theorem State.powerOn_txlog (c : Config) (e : Sample) : (State.powerOn c e).txlog = [] := rfl
@[simp] theorem State.powerOn_trace (c : Config) (e : Sample) : (State.powerOn c e).trace = [] := rfl
@[simp] theorem State.powerOn_freeIdx (c : Config) (e : Sample) : (State.powerOn c e).freeIdx = 0 := rfl

end Sys2Proof.Machine
end

