-- ==== Sys2Proof/Laws/Ops.lean ====
section
/-! SUPPORT. Laws/Ops.lean: for each shared operation, what it does where it is enabled, what it does where it is not, and, once,
everything a next state of it can be. -/

namespace Sys2Proof.Machine

@[simp] theorem when_true (s : State) (body : State → Out) : when true s body = body s := rfl

@[simp] theorem when_false (s : State) (body : State → Out) : when false s body = .next s := rfl

theorem when_of {c : Bool} (h : c = true) (s : State) (body : State → Out) : when c s body = body s := by
  subst h; rfl

theorem when_not {c : Bool} (h : c = false) (s : State) (body : State → Out) : when c s body = .next s := by
  subst h; rfl

/-- A guarded step either did not move or took its body. -/
theorem when_next_cases {c : Bool} {s t : State} {body : State → Out} (h : when c s body = .next t) :
    (c = false ∧ t = s) ∨ (c = true ∧ body s = .next t) := by
  cases c with
  | false => exact .inl ⟨rfl, by simpa using h.symm⟩
  | true => exact .inr ⟨rfl, h⟩

theorem atState_here {q : SeqState} {s : State} (h : s.seq = q) (body : State → Out) : atState q s body = body s :=
  when_of (decide_eq_true h) s body

theorem atState_elsewhere {q : SeqState} {s : State} (h : s.seq ≠ q) (body : State → Out) : atState q s body = .next s :=
  when_not (decide_eq_false h) s body

/-- A micro-state's step either was not the one `SEQ` holds, or took its body. -/
theorem atState_next_cases {q : SeqState} {s t : State} {body : State → Out} (h : atState q s body = .next t) :
    (s.seq ≠ q ∧ t = s) ∨ (s.seq = q ∧ body s = .next t) := by
  rcases when_next_cases h with ⟨hc, ht⟩ | ⟨hc, ht⟩
  · exact .inl ⟨of_decide_eq_false hc, ht⟩
  · exact .inr ⟨of_decide_eq_true hc, ht⟩

@[simp] theorem State.irqEnabled_edge (s : State) : s.irqEnabled .edge = (s.dpend && !s.imask) := rfl

@[simp] theorem State.irqEnabled_tick (s : State) : s.irqEnabled .tick = (s.tpend && !s.imask) := rfl

theorem takeInterrupt_enabled {q : Irq} {s : State} (h : s.irqEnabled q = true) (f : State → State) :
    takeInterrupt q f s = .next ((f s).clearPending q) := by
  simp only [takeInterrupt, when_of h, returnFromInterrupt]

theorem takeInterrupt_held {q : Irq} {s : State} (h : s.irqEnabled q = false) (f : State → State) :
    takeInterrupt q f s = .next s := when_not h s _

/-- An interrupt always answers a next state: the handler's, returned from, or the state itself. -/
theorem takeInterrupt_next_cases {q : Irq} {f : State → State} {s t : State} (h : takeInterrupt q f s = .next t) :
    (s.irqEnabled q = false ∧ t = s) ∨ (s.irqEnabled q = true ∧ t = (f s).clearPending q) := by
  rcases when_next_cases h with ⟨hc, ht⟩ | ⟨hc, ht⟩
  · exact .inl ⟨hc, ht⟩
  · exact .inr ⟨hc, (Host.Outcome.next.inj ht).symm⟩

/-- Everything a code row's step can do. -/
theorem codeStep_next_cases {mode : CountMode} {code : Code} {act : Action} {s t : State}
    (h : codeStep mode code act s = .next t) :
    t = s ∨ (s.cfg.countMode = mode ∧ s.code = code ∧ s.dpend = true ∧ s.imask = false ∧
      t = (s.count (orient s.cfg.fwdSign act)).clearPending .edge) := by
  rcases when_next_cases h with ⟨-, ht⟩ | ⟨hc, ht⟩
  · exact .inl ht
  · rcases takeInterrupt_next_cases ht with ⟨-, ht⟩ | ⟨he, ht⟩
    · exact .inl ht
    · simp only [Bool.and_eq_true, decide_eq_true_eq] at hc
      simp only [State.irqEnabled_edge, Bool.and_eq_true, Bool.not_eq_true'] at he
      exact .inr ⟨hc.1, hc.2, he.1, he.2, ht⟩

theorem codeStep_selected {mode : CountMode} {code : Code} {act : Action} {s : State} (hm : s.cfg.countMode = mode)
    (hc : s.code = code) (hd : s.dpend = true) (hi : s.imask = false) :
    codeStep mode code act s = .next ((s.count (orient s.cfg.fwdSign act)).clearPending .edge) := by
  have he : s.irqEnabled .edge = true := by simp [hd, hi]
  simp only [codeStep, when_of (show (decide (s.cfg.countMode = mode) && decide (s.code = code)) = true by simp [hm, hc]),
    takeInterrupt_enabled he]

theorem transmit_ready {s : State} (h : s.txReady = true) (b : Byte) (q : SeqState) :
    transmit b q s = .next ((s.sent b).goto q) := when_of h s _

theorem transmit_blocked {s : State} (h : s.txReady = false) (b : Byte) (q : SeqState) : transmit b q s = .next s :=
  when_not h s _

/-- A send either waits or appends its byte and moves on. -/
theorem transmit_next_cases {b : Byte} {q : SeqState} {s t : State} (h : transmit b q s = .next t) :
    (s.txReady = false ∧ t = s) ∨ (s.txReady = true ∧ t = (s.sent b).goto q) := by
  rcases when_next_cases h with ⟨hc, ht⟩ | ⟨hc, ht⟩
  · exact .inl ⟨hc, ht⟩
  · exact .inr ⟨hc, (Host.Outcome.next.inj ht).symm⟩

theorem readByte_cons {s : State} {b : Byte} {rest : List Byte} (h : s.rxq = b :: rest) (use : Byte → State → Out) :
    readByte s use = use b { s with rxq := rest } := by
  simp only [readByte, h]

theorem readByte_nil {s : State} (h : s.rxq = []) (use : Byte → State → Out) :
    readByte s use = .refused .readByteEmpty := by
  simp only [readByte, h]

/-- A read that goes on took the head of `RXQ`. -/
theorem readByte_next_cases {s t : State} {use : Byte → State → Out} (h : readByte s use = .next t) :
    ∃ b rest, s.rxq = b :: rest ∧ use b { s with rxq := rest } = .next t := by
  unfold readByte at h
  split at h
  · exact nomatch h
  · next b rest hq => exact ⟨b, rest, hq, h⟩

/-- A received byte was appended, and there was room. -/
theorem receive_next_cases {b : Byte} {s t : State} (h : receive b s = .next t) :
    s.rxq.length < s.cfg.rxDepth ∧ t = { s with rxq := s.rxq ++ [b] } := by
  unfold receive at h
  split at h
  · next hlt => exact ⟨hlt, (Host.Outcome.next.inj h).symm⟩
  · exact nomatch h

/-- A snapshot that goes on was taken inside the critical section, of the pair as it stood. -/
theorem snapshotPair_next_cases {s t : State} {after : State → Out} (h : snapshotPair s after = .next t) :
    s.imask = true ∧ after { s with snapPos := s.pos, snapErr := s.errcnt } = .next t := by
  unfold snapshotPair at h
  split at h
  · next hm => exact ⟨hm, h⟩
  · exact nomatch h

theorem gatedDuty_noError {s : State} (h : s.errst = .noError) (m : Seven) : gatedDuty s m = scaledDuty s.cfg m := by
  simp only [gatedDuty, h]

theorem gatedDuty_error {s : State} (h : s.errst ≠ .noError) (m : Seven) : gatedDuty s m = 0#8 := by
  unfold gatedDuty; split <;> first | rfl | contradiction

/-- A zero magnitude is zero duty under every scale (R182's corner case). -/
@[simp] theorem scaledDuty_zero (c : Config) : scaledDuty c 0#7 = 0#8 := by simp [scaledDuty]

theorem scaledDuty_toNat {c : Config} (h : c.dutyScale * 127 ≤ 255) (m : Seven) :
    (scaledDuty c m).toNat = c.dutyScale * m.toNat := by
  have hm : m.toNat ≤ 127 := by have := m.isLt; omega
  have : c.dutyScale * m.toNat ≤ c.dutyScale * 127 := Nat.mul_le_mul_left _ hm
  simp only [scaledDuty, BitVec.toNat_ofNat]
  omega

/-- The delta's sign extension, R76: +1 is 0x0001, -1 is 0xFFFF, 0 is 0x0000. -/
@[simp] theorem Action.addend_inc : Action.addend .inc = 0x0001#16 := by decide

@[simp] theorem Action.addend_dec1 : Action.addend .dec1 = 0xFFFF#16 := by decide

@[simp] theorem Action.addend_nop : Action.addend .nop = 0#16 := by decide

@[simp] theorem Action.addend_amb : Action.addend .amb = 0#16 := by decide

@[simp] theorem lineA_sampleOfLines (c : Config) (a b : Bool) : lineA c (sampleOfLines c a b) = a := by
  unfold lineA sampleOfLines; cases c.lineMap <;> cases a <;> cases b <;> rfl

@[simp] theorem lineB_sampleOfLines (c : Config) (a b : Bool) : lineB c (sampleOfLines c a b) = b := by
  unfold lineB sampleOfLines; cases c.lineMap <;> cases a <;> cases b <;> rfl

end Sys2Proof.Machine
end

