-- ==== Sys2Proof/Laws/PerInstr.lean ====
section
/-! SUPPORT. Laws/PerInstr.lean: for every row, what its encoding looks like (R70): the bytes are as many as its format has. -/

namespace Sys2Proof.Laws

/-- R70: a row that has a bit pattern has the number of bytes its format says, and the format is never `event`. -/
def EncodedForm.Statement (i : Instr) : Prop :=
  ∀ (c : Config) (f : Format) (bytes : List Byte), encode c i = some (f, bytes) → bytes.length = f.size ∧ f ≠ .event

/-- A row without a bit pattern: nothing to show. -/
theorem encodedForm_of_none {i : Instr} (h : ∀ c, encode c i = none) : EncodedForm.Statement i := by
  intro c f bytes he
  rw [h c] at he
  exact nomatch he

/-- A row with one: its bytes are counted. -/
theorem encodedForm_of_some {i : Instr} (f : Format) (bytes : Config → List Byte)
    (h : ∀ c, encode c i = some (f, bytes c)) (hl : ∀ c, (bytes c).length = f.size) (hf : f ≠ .event) :
    EncodedForm.Statement i := by
  intro c f' bytes' he
  rw [h c] at he
  obtain ⟨rfl, rfl⟩ : f = f' ∧ bytes c = bytes' := by simpa using he
  exact ⟨hl c, hf⟩

theorem EncodedForm.q0 : EncodedForm.Statement .q0 :=
  encodedForm_of_some .quarterCode _ (fun _ => rfl) (fun _ => rfl) nofun

theorem EncodedForm.q1 : EncodedForm.Statement .q1 :=
  encodedForm_of_some .quarterCode _ (fun _ => rfl) (fun _ => rfl) nofun

theorem EncodedForm.q2 : EncodedForm.Statement .q2 :=
  encodedForm_of_some .quarterCode _ (fun _ => rfl) (fun _ => rfl) nofun

theorem EncodedForm.q3 : EncodedForm.Statement .q3 :=
  encodedForm_of_some .quarterCode _ (fun _ => rfl) (fun _ => rfl) nofun

theorem EncodedForm.q4 : EncodedForm.Statement .q4 :=
  encodedForm_of_some .quarterCode _ (fun _ => rfl) (fun _ => rfl) nofun

theorem EncodedForm.q5 : EncodedForm.Statement .q5 :=
  encodedForm_of_some .quarterCode _ (fun _ => rfl) (fun _ => rfl) nofun

theorem EncodedForm.q6 : EncodedForm.Statement .q6 :=
  encodedForm_of_some .quarterCode _ (fun _ => rfl) (fun _ => rfl) nofun

theorem EncodedForm.q7 : EncodedForm.Statement .q7 :=
  encodedForm_of_some .quarterCode _ (fun _ => rfl) (fun _ => rfl) nofun

theorem EncodedForm.q8 : EncodedForm.Statement .q8 :=
  encodedForm_of_some .quarterCode _ (fun _ => rfl) (fun _ => rfl) nofun

theorem EncodedForm.q9 : EncodedForm.Statement .q9 :=
  encodedForm_of_some .quarterCode _ (fun _ => rfl) (fun _ => rfl) nofun

theorem EncodedForm.q10 : EncodedForm.Statement .q10 :=
  encodedForm_of_some .quarterCode _ (fun _ => rfl) (fun _ => rfl) nofun

theorem EncodedForm.q11 : EncodedForm.Statement .q11 :=
  encodedForm_of_some .quarterCode _ (fun _ => rfl) (fun _ => rfl) nofun

theorem EncodedForm.q12 : EncodedForm.Statement .q12 :=
  encodedForm_of_some .quarterCode _ (fun _ => rfl) (fun _ => rfl) nofun

theorem EncodedForm.q13 : EncodedForm.Statement .q13 :=
  encodedForm_of_some .quarterCode _ (fun _ => rfl) (fun _ => rfl) nofun

theorem EncodedForm.q14 : EncodedForm.Statement .q14 :=
  encodedForm_of_some .quarterCode _ (fun _ => rfl) (fun _ => rfl) nofun

theorem EncodedForm.q15 : EncodedForm.Statement .q15 :=
  encodedForm_of_some .quarterCode _ (fun _ => rfl) (fun _ => rfl) nofun

theorem EncodedForm.c0 : EncodedForm.Statement .c0 :=
  encodedForm_of_some .coarseCode _ (fun _ => rfl) (fun _ => rfl) nofun

theorem EncodedForm.c1 : EncodedForm.Statement .c1 :=
  encodedForm_of_some .coarseCode _ (fun _ => rfl) (fun _ => rfl) nofun

theorem EncodedForm.c2 : EncodedForm.Statement .c2 :=
  encodedForm_of_some .coarseCode _ (fun _ => rfl) (fun _ => rfl) nofun

theorem EncodedForm.c3 : EncodedForm.Statement .c3 :=
  encodedForm_of_some .coarseCode _ (fun _ => rfl) (fun _ => rfl) nofun

theorem EncodedForm.c4 : EncodedForm.Statement .c4 :=
  encodedForm_of_some .coarseCode _ (fun _ => rfl) (fun _ => rfl) nofun

theorem EncodedForm.c5 : EncodedForm.Statement .c5 :=
  encodedForm_of_some .coarseCode _ (fun _ => rfl) (fun _ => rfl) nofun

theorem EncodedForm.c6 : EncodedForm.Statement .c6 :=
  encodedForm_of_some .coarseCode _ (fun _ => rfl) (fun _ => rfl) nofun

theorem EncodedForm.c7 : EncodedForm.Statement .c7 :=
  encodedForm_of_some .coarseCode _ (fun _ => rfl) (fun _ => rfl) nofun

theorem EncodedForm.c8 : EncodedForm.Statement .c8 :=
  encodedForm_of_some .coarseCode _ (fun _ => rfl) (fun _ => rfl) nofun

theorem EncodedForm.c9 : EncodedForm.Statement .c9 :=
  encodedForm_of_some .coarseCode _ (fun _ => rfl) (fun _ => rfl) nofun

theorem EncodedForm.c10 : EncodedForm.Statement .c10 :=
  encodedForm_of_some .coarseCode _ (fun _ => rfl) (fun _ => rfl) nofun

theorem EncodedForm.c11 : EncodedForm.Statement .c11 :=
  encodedForm_of_some .coarseCode _ (fun _ => rfl) (fun _ => rfl) nofun

theorem EncodedForm.c12 : EncodedForm.Statement .c12 :=
  encodedForm_of_some .coarseCode _ (fun _ => rfl) (fun _ => rfl) nofun

theorem EncodedForm.c13 : EncodedForm.Statement .c13 :=
  encodedForm_of_some .coarseCode _ (fun _ => rfl) (fun _ => rfl) nofun

theorem EncodedForm.c14 : EncodedForm.Statement .c14 :=
  encodedForm_of_some .coarseCode _ (fun _ => rfl) (fun _ => rfl) nofun

theorem EncodedForm.c15 : EncodedForm.Statement .c15 :=
  encodedForm_of_some .coarseCode _ (fun _ => rfl) (fun _ => rfl) nofun

theorem EncodedForm.ack : EncodedForm.Statement .ack :=
  encodedForm_of_some .command _ (fun _ => rfl) (fun _ => rfl) nofun

theorem EncodedForm.fwd (m : Seven) : EncodedForm.Statement (.fwd m) :=
  encodedForm_of_some .command _ (fun _ => rfl) (fun _ => rfl) nofun

theorem EncodedForm.rev (m : Seven) : EncodedForm.Statement (.rev m) :=
  encodedForm_of_some .command _ (fun _ => rfl) (fun _ => rfl) nofun

theorem EncodedForm.statusElapsed (v : Seven) : EncodedForm.Statement (.statusElapsed v) :=
  encodedForm_of_some .status _ (fun _ => rfl) (fun _ => rfl) nofun

theorem EncodedForm.statusPoweredOn : EncodedForm.Statement .statusPoweredOn :=
  encodedForm_of_some .status _ (fun _ => rfl) (fun _ => rfl) nofun

theorem EncodedForm.statusCommandTimeout : EncodedForm.Statement .statusCommandTimeout :=
  encodedForm_of_some .status _ (fun _ => rfl) (fun _ => rfl) nofun

theorem EncodedForm.frame (lo hi err status : Byte) : EncodedForm.Statement (.frame lo hi err status) :=
  encodedForm_of_some .frame _ (fun _ => rfl) (fun _ => rfl) nofun

theorem EncodedForm.dec : EncodedForm.Statement .dec :=
  encodedForm_of_none fun _ => rfl

theorem EncodedForm.tick : EncodedForm.Statement .tick :=
  encodedForm_of_none fun _ => rfl

theorem EncodedForm.clk : EncodedForm.Statement .clk :=
  encodedForm_of_none fun _ => rfl

theorem EncodedForm.enc (smp : Sample) : EncodedForm.Statement (.enc smp) :=
  encodedForm_of_none fun _ => rfl

theorem EncodedForm.rx (b : Byte) : EncodedForm.Statement (.rx b) :=
  encodedForm_of_none fun _ => rfl

theorem EncodedForm.csEnter : EncodedForm.Statement .csEnter :=
  encodedForm_of_none fun _ => rfl

theorem EncodedForm.snapRead : EncodedForm.Statement .snapRead :=
  encodedForm_of_none fun _ => rfl

theorem EncodedForm.csExit : EncodedForm.Statement .csExit :=
  encodedForm_of_none fun _ => rfl

theorem EncodedForm.apply : EncodedForm.Statement .apply :=
  encodedForm_of_none fun _ => rfl

theorem EncodedForm.ackchk : EncodedForm.Statement .ackchk :=
  encodedForm_of_none fun _ => rfl

theorem EncodedForm.forceZero : EncodedForm.Statement .forceZero :=
  encodedForm_of_none fun _ => rfl

theorem EncodedForm.msRead : EncodedForm.Statement .msRead :=
  encodedForm_of_none fun _ => rfl

theorem EncodedForm.msClear : EncodedForm.Statement .msClear :=
  encodedForm_of_none fun _ => rfl

theorem EncodedForm.s1Enter : EncodedForm.Statement .s1Enter :=
  encodedForm_of_none fun _ => rfl

theorem EncodedForm.s1Read : EncodedForm.Statement .s1Read :=
  encodedForm_of_none fun _ => rfl

theorem EncodedForm.s1Exit : EncodedForm.Statement .s1Exit :=
  encodedForm_of_none fun _ => rfl

theorem EncodedForm.s1Apply : EncodedForm.Statement .s1Apply :=
  encodedForm_of_none fun _ => rfl

theorem EncodedForm.s2Ack : EncodedForm.Statement .s2Ack :=
  encodedForm_of_none fun _ => rfl

theorem EncodedForm.s3Tx0 : EncodedForm.Statement .s3Tx0 :=
  encodedForm_of_none fun _ => rfl

theorem EncodedForm.s3Tx1 : EncodedForm.Statement .s3Tx1 :=
  encodedForm_of_none fun _ => rfl

theorem EncodedForm.s3Tx2 : EncodedForm.Statement .s3Tx2 :=
  encodedForm_of_none fun _ => rfl

theorem EncodedForm.s3Tx3 : EncodedForm.Statement .s3Tx3 :=
  encodedForm_of_none fun _ => rfl

theorem EncodedForm.s4Await : EncodedForm.Statement .s4Await :=
  encodedForm_of_none fun _ => rfl

theorem EncodedForm.s5aStore : EncodedForm.Statement .s5aStore :=
  encodedForm_of_none fun _ => rfl

theorem EncodedForm.s5aRec : EncodedForm.Statement .s5aRec :=
  encodedForm_of_none fun _ => rfl

theorem EncodedForm.s5aWait : EncodedForm.Statement .s5aWait :=
  encodedForm_of_none fun _ => rfl

theorem EncodedForm.s5aClear : EncodedForm.Statement .s5aClear :=
  encodedForm_of_none fun _ => rfl

theorem EncodedForm.s5bMark : EncodedForm.Statement .s5bMark :=
  encodedForm_of_none fun _ => rfl

theorem EncodedForm.s5bDrain : EncodedForm.Statement .s5bDrain :=
  encodedForm_of_none fun _ => rfl

theorem EncodedForm.s5bRef : EncodedForm.Statement .s5bRef :=
  encodedForm_of_none fun _ => rfl

theorem EncodedForm.s5bWait : EncodedForm.Statement .s5bWait :=
  encodedForm_of_none fun _ => rfl

theorem EncodedForm.s5bClear : EncodedForm.Statement .s5bClear :=
  encodedForm_of_none fun _ => rfl

end Sys2Proof.Laws
end

