-- ==== Sys2Proof/Laws/Step.lean ====
section
/-! SUPPORT. Laws/Step.lean: what one event's step can do, said once, and where a step takes its event from. -/

namespace Sys2Proof.Machine

theorem step_of_trace_cons {s : State} {e : Event} {rest : List Event} (h : s.trace = e :: rest) :
    step s = runEvent e { s with trace := rest } := by
  simp only [step, nextEvent, h]

theorem step_of_trace_nil {s : State} (h : s.trace = []) :
    step s = runEvent (.agent (Config.freeSchedule s.freeIdx)) s.drawn := by
  simp only [step, nextEvent, h]

/-- Everything an event that goes on can do: it ran a row, or ENV set the readiness, or no agent moved. -/
theorem runEvent_next_cases {e : Event} {s t : State} (h : runEvent e s = .next t) :
    (∃ i, fetchEvent e s = .run i ∧ exec i s = .next t) ∨
    (∃ r, fetchEvent e s = .setReady r ∧ t = { s with txReady := r }) ∨
    (fetchEvent e s = .idle ∧ t = s) := by
  unfold runEvent at h
  split at h
  · next i hf => exact .inl ⟨i, hf, h⟩
  · next r hf => exact .inr (.inl ⟨r, hf, (Host.Outcome.next.inj h).symm⟩)
  · next hf => exact .inr (.inr ⟨hf, (Host.Outcome.next.inj h).symm⟩)
  · exact nomatch h

theorem isAgentRow_seqRow (q : SeqState) : isAgentRow (seqRow q) = true := by cases q <;> rfl

/-- What a `TX` event that goes on to a row is: the sequencer's step that sends the byte. -/
theorem fetchTx_run {b : Byte} {s : State} {i : Instr} (h : fetchTx b s = .run i) :
    s.txByte = some b ∧ i = seqRow s.seq := by
  unfold fetchTx at h
  split at h
  · exact nomatch h
  · split at h
    · next hb => exact ⟨hb, (Fetched.run.inj h).symm⟩
    · exact nomatch h

/-- An agents' event that runs a row runs an agent's row. -/
theorem fetchEvent_run_isAgentRow {e : Event} {s : State} {i : Instr} (he : isAgentEvent s.cfg e = true)
    (h : fetchEvent e s = .run i) : isAgentRow i = true := by
  cases e with
  | agent a => cases a <;> simp_all [fetchEvent, fetchAgent] <;> subst h <;> first | rfl | exact isAgentRow_seqRow _
  | tx b => rw [(fetchTx_run h).2]; exact isAgentRow_seqRow _
  | row j =>
    simp only [fetchEvent] at h
    split at h <;> simp_all [isAgentEvent]
  | word bytes =>
    simp only [fetchEvent, fetchDecoded] at h
    simp only [isAgentEvent] at he
    split at h <;> simp_all
  | wordIn f bytes =>
    simp only [fetchEvent, fetchDecoded] at h
    simp only [isAgentEvent] at he
    split at h <;> simp_all

/-- An enabled event was fetched as an enabled row, or sets the readiness. -/
theorem eventEnabled_cases {e : Event} {s : State} (h : eventEnabled e s = true) :
    (∃ i, fetchEvent e s = .run i ∧ rowEnabled i s = true) ∨ ∃ r, fetchEvent e s = .setReady r := by
  unfold eventEnabled at h
  split at h
  · next i hf => exact .inl ⟨i, hf, h⟩
  · next r hf => exact .inr ⟨r, hf⟩
  · exact nomatch h
  · exact nomatch h

/-- A legal trace runs, event by event, to where it says. -/
theorem runTrace_of_runLegal {es : List Event} {s t : State} (h : runLegal es s = some t) : runTrace es s = .next t := by
  induction es generalizing s with
  | nil => exact congrArg Host.Outcome.next (Option.some.inj h)
  | cons e rest ih =>
    simp only [runLegal] at h
    split at h
    · split at h
      · next u hu => simp only [runTrace, hu]; exact ih h
      · exact nomatch h
    · exact nomatch h

end Sys2Proof.Machine
end

