-- ==== Sys2Proof/Tests/Slice0.lean ====
section
/-! SUPPORT. Tests/Slice0.lean: words written out from spec/30_encoding.md and spec/opcode_table.json, vectors of
spec/95_test_vectors.md, an ill-formed term for each check, and for each obligation with hypotheses a state that meets them. -/

namespace Sys2Proof.Tests

open Sys2Proof Sys2Proof.Machine

/-- The next state, where there is one. -/
def after (o : Out) : Option State :=
  match o with
  | .next t => some t
  | _ => none

/-- The default build at a micro-state, nothing else moved since reset. -/
def at_ (q : SeqState) : State := { State.reset with seq := q }

/-- Vector V1's start: `POS` = 0x0100, `ERRCNT` = 0x07, a request pending, the samples as given. -/
def coded (mode : CountMode) (new prev : Sample) : State :=
  { State.reset with cfg := { Config.default with countMode := mode }, enc := new, prev := prev, pos := 0x0100#16,
                     errcnt := 0x07#8, dpend := true }

/-! ## Well-formedness -/

theorem test_wf_refuses_reverse_zero :
    (Instr.rev 0#7).wf Config.default = false ∧ (Instr.rev 1#7).wf Config.default = true := by decide

/-- R86: 0x80 and 0x83 are never sent, 0x7F and 0x82 are. -/
theorem test_wf_refuses_a_frame_with_a_status_never_sent :
    (Instr.frame 0#8 0#8 0#8 0x80#8).wf Config.default = false ∧ (Instr.frame 0#8 0#8 0#8 0x83#8).wf Config.default = false ∧
    (Instr.frame 0#8 0#8 0#8 0x7F#8).wf Config.default = true ∧ (Instr.frame 0#8 0#8 0#8 0x82#8).wf Config.default = true := by
  decide

theorem test_wf_accepts_the_default_build : Config.default.wf = true := by decide

theorem test_wf_refuses_a_duty_beyond_a_byte : { Config.default with dutyScale := 3 }.wf = false := by decide

theorem test_wf_refuses_a_cadence_at_the_timeout : { Config.default with cadenceTicks := 50 }.wf = false := by decide

theorem test_wf_refuses_a_timeout_of_128 : { Config.default with timeoutTicks := 128 }.wf = false := by decide

theorem test_wf_refuses_error_code_zero :
    { Config.default with codePoweredOn := 0#7 }.wf = false ∧
    { Config.default with codeCommandTimeout := 0#7 }.wf = false := by decide

theorem test_wf_refuses_equal_error_codes : { Config.default with codePoweredOn := 2#7 }.wf = false := by decide

theorem test_wf_refuses_a_low_elapsed_sentinel : { Config.default with elapsedTimeout := 127#8 }.wf = false := by decide

theorem test_wf_refuses_an_empty_transport : { Config.default with rxDepth := 0 }.wf = false := by decide

/-! ## Words written out from the encodings -/

/-- R71's codes, {new, prev} in bits 3:2 and 1:0, quarter table: the "encoding" column of the opcode table. -/
theorem test_decode_quarter_codes :
    ∀ r ∈ [(0b0000#8, Instr.q0), (0b0001#8, .q1), (0b0010#8, .q2), (0b0011#8, .q3), (0b0100#8, .q4), (0b0101#8, .q5),
           (0b0110#8, .q6), (0b0111#8, .q7), (0b1000#8, .q8), (0b1001#8, .q9), (0b1010#8, .q10), (0b1011#8, .q11),
           (0b1100#8, .q12), (0b1101#8, .q13), (0b1110#8, .q14), (0b1111#8, .q15)],
      decode Config.default .quarterCode [r.1] = .ok r.2 ∧ encode Config.default r.2 = some (.quarterCode, [r.1]) := by
  decide

/-- The same codes, coarse table. -/
theorem test_decode_coarse_codes :
    ∀ r ∈ [(0b0000#8, Instr.c0), (0b0001#8, .c1), (0b0010#8, .c2), (0b0011#8, .c3), (0b0100#8, .c4), (0b0101#8, .c5),
           (0b0110#8, .c6), (0b0111#8, .c7), (0b1000#8, .c8), (0b1001#8, .c9), (0b1010#8, .c10), (0b1011#8, .c11),
           (0b1100#8, .c12), (0b1101#8, .c13), (0b1110#8, .c14), (0b1111#8, .c15)],
      decode Config.default .coarseCode [r.1] = .ok r.2 ∧ encode Config.default r.2 = some (.coarseCode, [r.1]) := by
  decide

/-- R77, R78: reverse flag in bit 7, magnitude in bits 6:0; V9's bytes. -/
theorem test_decode_command_bytes :
    ∀ r ∈ [(0b00000000#8, Instr.fwd 0#7), (0b00000001#8, .fwd 1#7), (0b01010000#8, .fwd 80#7), (0b01111111#8, .fwd 127#7),
           (0b10000000#8, .ack), (0b10000001#8, .rev 1#7), (0b11010000#8, .rev 80#7), (0b11111111#8, .rev 127#7)],
      decode Config.default .command [r.1] = .ok r.2 ∧ encode Config.default r.2 = some (.command, [r.1]) := by
  decide

/-- R81, R205; V10's bytes. -/
theorem test_decode_status_bytes :
    ∀ r ∈ [(0b00000000#8, Instr.statusElapsed 0#7), (0b00110001#8, .statusElapsed 49#7), (0b01111111#8, .statusElapsed 127#7),
           (0b10000001#8, .statusPoweredOn), (0b10000010#8, .statusCommandTimeout)],
      decode Config.default .status [r.1] = .ok r.2 ∧ encode Config.default r.2 = some (.status, [r.1]) := by
  decide

/-- R82; V11 row 2: 34 12 07 07. -/
theorem test_decode_frame :
    decode Config.default .frame [0x34#8, 0x12#8, 0x07#8, 0x07#8] = .ok (.frame 0x34#8 0x12#8 0x07#8 0x07#8) ∧
    decodeTableWord 32 0x07071234 = some (.frame 0x34#8 0x12#8 0x07#8 0x07#8) := by
  decide

/-- What no format admits is rejected by name. -/
theorem test_decode_rejections :
    decode Config.default .quarterCode [0b00010000#8] = .error .codeTooWide ∧
    decode Config.default .coarseCode [0b00010000#8] = .error .codeTooWide ∧
    decode Config.default .status [0b10000000#8] = .error .statusNeverSent ∧
    decode Config.default .status [0b11111111#8] = .error .statusNeverSent ∧
    decode Config.default .frame [0#8, 0#8, 0#8] = .error .wrongLength ∧
    decode Config.default .frame [0#8, 0#8, 0#8, 0x83#8] = .error .statusNeverSent ∧
    decode Config.default .command [] = .error .wrongLength ∧
    decode Config.default .event [] = .error .noBitPattern := by
  decide

/-- A bare byte's reading (log 10), and its step right after reset. -/
theorem test_bare_words :
    decodeTableWord 8 0x0E = some .q14 ∧ decodeTableWord 8 0x80 = some .ack ∧ decodeTableWord 8 0x82 = some .statusCommandTimeout ∧
    decodeTableWord 8 0x50 = some (.fwd 80#7) ∧ decodeTableWord 8 0xFF = some (.rev 127#7) ∧
    decodeTableWord 16 0 = none := by
  decide

theorem test_word_runs_after_reset :
    (after (step (State.reset.withFetchWord 8 0x0E))).map State.pos = some 1#16 ∧
    (after (step (State.reset.withFetchWord 8 0x80))).map State.errst = some .noError ∧
    (after (step (State.reset.withFetchWord 8 0x82))).map State.txlog = some [0x82#8] ∧
    (after (step (State.reset.withFetchWord 32 0x07071234))).map State.txlog = some [0x34#8, 0x12#8, 0x07#8, 0x07#8] := by
  decide

/-! ## Vectors of spec/95_test_vectors.md -/

/-- V1, quarter columns, codes 0 to 7: the row, new, prev, `POS`, `ERRCNT`. -/
theorem test_v1_quarter_0 :
    ∀ r ∈ [(Instr.q0, 0b00#2, 0b00#2, 0x0100#16, 0x07#8), (.q1, 0b00#2, 0b01#2, 0x0101#16, 0x07#8),
           (.q2, 0b00#2, 0b10#2, 0x00FF#16, 0x07#8), (.q3, 0b00#2, 0b11#2, 0x0100#16, 0x08#8),
           (.q4, 0b01#2, 0b00#2, 0x00FF#16, 0x07#8), (.q5, 0b01#2, 0b01#2, 0x0100#16, 0x07#8),
           (.q6, 0b01#2, 0b10#2, 0x0100#16, 0x08#8), (.q7, 0b01#2, 0b11#2, 0x0101#16, 0x07#8)],
      (after (exec r.1 (coded .quarter r.2.1 r.2.2.1))).map (fun t => (t.pos, t.errcnt, t.prev, t.dpend)) =
        some (r.2.2.2.1, r.2.2.2.2, r.2.1, false) := by
  decide

/-- V1, quarter columns, codes 8 to 15: the row, new, prev, `POS`, `ERRCNT`. -/
theorem test_v1_quarter_8 :
    ∀ r ∈ [(Instr.q8, 0b10#2, 0b00#2, 0x0101#16, 0x07#8), (.q9, 0b10#2, 0b01#2, 0x0100#16, 0x08#8),
           (.q10, 0b10#2, 0b10#2, 0x0100#16, 0x07#8), (.q11, 0b10#2, 0b11#2, 0x00FF#16, 0x07#8),
           (.q12, 0b11#2, 0b00#2, 0x0100#16, 0x08#8), (.q13, 0b11#2, 0b01#2, 0x00FF#16, 0x07#8),
           (.q14, 0b11#2, 0b10#2, 0x0101#16, 0x07#8), (.q15, 0b11#2, 0b11#2, 0x0100#16, 0x07#8)],
      (after (exec r.1 (coded .quarter r.2.1 r.2.2.1))).map (fun t => (t.pos, t.errcnt, t.prev, t.dpend)) =
        some (r.2.2.2.1, r.2.2.2.2, r.2.1, false) := by
  decide

/-- V1, coarse columns, codes 0 to 7: the row, new, prev, `POS`, `ERRCNT`. -/
theorem test_v1_coarse_0 :
    ∀ r ∈ [(Instr.c0, 0b00#2, 0b00#2, 0x0100#16, 0x07#8), (.c1, 0b00#2, 0b01#2, 0x0101#16, 0x07#8),
           (.c2, 0b00#2, 0b10#2, 0x00FF#16, 0x07#8), (.c3, 0b00#2, 0b11#2, 0x0100#16, 0x08#8),
           (.c4, 0b01#2, 0b00#2, 0x0100#16, 0x07#8), (.c5, 0b01#2, 0b01#2, 0x0100#16, 0x07#8),
           (.c6, 0b01#2, 0b10#2, 0x0100#16, 0x08#8), (.c7, 0b01#2, 0b11#2, 0x0100#16, 0x07#8)],
      (after (exec r.1 (coded .coarse r.2.1 r.2.2.1))).map (fun t => (t.pos, t.errcnt, t.prev, t.dpend)) =
        some (r.2.2.2.1, r.2.2.2.2, r.2.1, false) := by
  decide

/-- V1, coarse columns, codes 8 to 15: the row, new, prev, `POS`, `ERRCNT`. -/
theorem test_v1_coarse_8 :
    ∀ r ∈ [(Instr.c8, 0b10#2, 0b00#2, 0x0100#16, 0x07#8), (.c9, 0b10#2, 0b01#2, 0x0100#16, 0x08#8),
           (.c10, 0b10#2, 0b10#2, 0x0100#16, 0x07#8), (.c11, 0b10#2, 0b11#2, 0x0100#16, 0x07#8),
           (.c12, 0b11#2, 0b00#2, 0x0100#16, 0x08#8), (.c13, 0b11#2, 0b01#2, 0x0100#16, 0x07#8),
           (.c14, 0b11#2, 0b10#2, 0x0100#16, 0x07#8), (.c15, 0b11#2, 0b11#2, 0x0100#16, 0x07#8)],
      (after (exec r.1 (coded .coarse r.2.1 r.2.2.1))).map (fun t => (t.pos, t.errcnt, t.prev, t.dpend)) =
        some (r.2.2.2.1, r.2.2.2.2, r.2.1, false) := by
  decide

/-- V3 row 255 and V4 rows 1 and 3: the wraps. -/
theorem test_v3_v4_wraps :
    (after (exec .dec { coded .quarter 0b00#2 0b11#2 with errcnt := 0xFF#8 })).map State.errcnt = some 0x00#8 ∧
    (after (exec .dec { coded .quarter 0b00#2 0b01#2 with pos := 0x7FFF#16 })).map State.pos = some 0x8000#16 ∧
    (after (exec .dec { coded .quarter 0b00#2 0b10#2 with pos := 0x0000#16 })).map State.pos = some 0xFFFF#16 := by
  decide

/-- V4's signed reading. -/
theorem test_v4_signed_reading : signedPosition 0x8000#16 = -32768 ∧ signedPosition 0x7FFF#16 = 32767 := by decide

/-- V5 rows 4, 6 and 7. -/
theorem test_v5_clock :
    (after (exec .clk { State.reset with ms := 0xFF#8, tpend := true })).map (fun t => (t.ms, t.tpend)) = some (0#8, false) ∧
    (after (exec .clk { State.reset with ms := 0x13#8, tpend := true, imask := true })).map (fun t => (t.ms, t.tpend)) =
      some (0x13#8, true) ∧
    (after (exec .clk { State.reset with ms := 0x13#8 })).map State.ms = some 0x13#8 := by
  decide

/-- V5 row 8's clear. -/
theorem test_v5_clear :
    (after (exec .msClear { State.reset with ms := 0x14#8, tpend := true })).map (fun t => (t.ms, t.tpend)) =
      some (0#8, true) := by
  decide

/-- V8 row 5: three missed edges read as one step the wrong way. -/
theorem test_v8_three_missed_edges :
    (after (runTrace (agents [.enc 0b10#2, .enc 0b11#2, .enc 0b01#2, .dec])
      { State.reset with pos := 0x0100#16, errcnt := 0x07#8 })).map (fun t => (t.pos, t.errcnt)) =
      some (0x00FF#16, 0x07#8) := by
  decide

/-- V9: `CMD`, `ERRST` before, `DIR`, `DUTY`, from `DUTY` = 0x66. -/
theorem test_v9_apply :
    ∀ r ∈ [(0x50#8, ErrState.noError, Direction.forward, 0xA0#8), (0x7F#8, .noError, .forward, 0xFE#8),
           (0x50#8, .poweredOn, .forward, 0x00#8), (0x80#8, .noError, .reverse, 0x00#8), (0x81#8, .noError, .reverse, 0x02#8),
           (0xFF#8, .commandTimeout, .reverse, 0x00#8), (0xFF#8, .noError, .reverse, 0xFE#8)],
      (after (exec .s1Apply { at_ .s1Apply with cmd := r.1, errst := r.2.1, duty := 0x66#8 })).map
        (fun t => (t.dir, t.duty)) = some (r.2.2.1, r.2.2.2) := by
  decide

theorem test_v9_ack :
    (after (exec .s2Ack { at_ .s2Ack with cmd := 0x80#8 })).map State.errst = some .noError ∧
    (after (exec .s2Ack { at_ .s2Ack with cmd := 0x81#8 })).map State.errst = some .poweredOn := by
  decide

/-- The three command rows on V9's bytes. -/
theorem test_v9_command_rows :
    (after (exec (.fwd 80#7) { State.reset with cmd := 0x50#8, errst := .noError })).map State.duty = some 0xA0#8 ∧
    (after (exec (.rev 80#7) { State.reset with cmd := 0xD0#8, errst := .noError })).map State.dir = some .reverse ∧
    (after (exec .ack { State.reset with cmd := 0x80#8 })).map State.errst = some .noError := by
  decide

/-- V11: `SNAP_POS`, `SNAP_ERR`, `ERRST`, `ELAPSED`, the bytes in order. -/
theorem test_v11_frames :
    ∀ r ∈ [(0x1234#16, 0x07#8, ErrState.noError, 0x07#8, [0x34#8, 0x12#8, 0x07#8, 0x07#8]),
           (0xFFFE#16, 0x00#8, .noError, 0x14#8, [0xFE#8, 0xFF#8, 0x00#8, 0x14#8]),
           (0x8000#16, 0xFF#8, .commandTimeout, 0xFF#8, [0x00#8, 0x80#8, 0xFF#8, 0x82#8]),
           (0xFF00#16, 0x02#8, .poweredOn, 0x05#8, [0x00#8, 0xFF#8, 0x02#8, 0x81#8])],
      (after (runTrace (agents [.seq, .seq, .seq, .seq])
        { at_ .s3Tx0 with snapPos := r.1, snapErr := r.2.1, errst := r.2.2.1, elapsed := r.2.2.2.1 })).map State.txlog =
        some r.2.2.2.2 := by
  decide

/-- V12: `RXQ`, `MS`, next `SEQ`, the rows without a tie. -/
theorem test_v12_await :
    ∀ r ∈ [([], 0x31#8, SeqState.s4Await), ([], 0x32#8, .s5bMark), ([], 0xFF#8, .s5bMark), ([0x50#8], 0x31#8, .s5aStore)],
      (after (exec .s4Await { at_ .s4Await with rxq := r.1, ms := r.2.1 })).map State.seq = some r.2.2 := by
  decide

/-- V13: `ELAPSED`, `MS`, next `SEQ`. -/
theorem test_v13_cadence :
    ∀ r ∈ [(0x07#8, 0x13#8, SeqState.s5aWait), (0x07#8, 0x14#8, .s5aClear), (0x07#8, 0x15#8, .s5aWait),
           (0x14#8, 0x14#8, .s5aWait), (0x14#8, 0x15#8, .s5aClear), (0x17#8, 0x16#8, .s5aClear)],
      (after (exec .s5aWait { at_ .s5aWait with elapsed := r.1, ms := r.2.1 })).map State.seq = some r.2.2 := by
  decide

/-- V14 rows 1 and 2. -/
theorem test_v14_mark :
    (after (exec .s5bMark { at_ .s5bMark with errst := .noError, duty := 0xA0#8, elapsed := 7#8 })).map
      (fun t => (t.errst, t.duty, t.elapsed)) = some (.commandTimeout, 0#8, 0xFF#8) ∧
    (after (exec .s5bMark (at_ .s5bMark))).map State.errst = some .poweredOn := by
  decide

/-- V14 rows 4 and 7. -/
theorem test_v14_drain :
    (after (exec .s5bDrain { at_ .s5bDrain with cmd := 0x50#8 })).map (fun t => (t.cmd, t.seq)) = some (0x50#8, .s5bDrain) ∧
    (after (exec .s5bDrain { at_ .s5bDrain with cmd := 0x50#8, rxq := [0x80#8, 0x10#8] })).map (fun t => (t.cmd, t.rxq)) =
      some (0#8, [0x10#8]) := by
  decide

/-- V15, a line change and a line that does not change. -/
theorem test_v15_requests :
    (after (exec (.enc 0b10#2) State.reset)).map State.dpend = some true ∧
    (after (exec (.enc 0b00#2) State.reset)).map State.dpend = some false := by
  decide

/-- R35, D5: the sample 10 is line A high under the one map, line B high under the other. -/
theorem test_line_map :
    sampleOfLines Config.default true false = 0b10#2 ∧
    sampleOfLines { Config.default with lineMap := .bit0IsA } true false = 0b01#2 ∧
    lineA { Config.default with lineMap := .bit0IsA } 0b10#2 = false ∧
    lineB { Config.default with lineMap := .bit0IsA } 0b10#2 = true := by
  decide

/-! ## Legal traces and `POLL_FAST` (R87, R88, R223) -/

/-- `SNAP` is legal at `S1_ENTER` and nowhere else. -/
theorem test_legal_snap :
    legalTrace snap State.reset = true ∧ legalTrace snap (at_ .s1Apply) = false ∧
    (runLegal snap State.reset).map State.seq = some .s1Apply := by decide

/-- P1's first frame; another status byte is no line of a legal trace. -/
theorem test_legal_frame :
    legalTrace (frameEvents 0x00#8 0x00#8 0x00#8 0x81#8) (at_ .s3Tx0) = true ∧
    legalTrace (frameEvents 0x00#8 0x00#8 0x00#8 0x82#8) (at_ .s3Tx0) = false := by decide

/-- R87: a `DEC` without a request, a `TX` of another byte, a `SEQ` of another state, an `RX` beyond the depth are not legal; an
edge with its `DEC` is. -/
theorem test_illegal_events :
    legalTrace [.agent .dec] State.reset = false ∧ legalTrace [.tx 0x12#8] (at_ .s3Tx0) = false ∧
    legalTrace [seqAt .s2Ack] State.reset = false ∧
    legalTrace (agents [.rx 1#8, .rx 2#8, .rx 3#8]) State.reset = false ∧ legalTrace (edge 0b10#2) State.reset = true := by
  decide

/-- P1's polling loop with its named state, cut to three rounds (`3 * ( MSEC ; SEQ S4_AWAIT )`). -/
theorem test_legal_polling_loop :
    (runLegal (repeated 3 (msec ++ [seqAt .s4Await])) (at_ .s4Await)).map (fun t => (t.ms, t.seq)) = some (3#8, .s4Await) ∧
    pollFast none (repeated 3 (msec ++ [seqAt .s4Await])) (at_ .s4Await) = true := by decide

/-- P2's ticks while `S5B_DRAIN` blocks keep `POLL_FAST`; two CLK steps between two polls of `S5A_WAIT` break it, two before the
first poll do not. -/
theorem test_poll_fast :
    pollFast none (seqAt .s5bMark :: msecs 3 ++ agents [.rx 0x7F#8] ++ [seqAt .s5bDrain]) (at_ .s5bMark) = true ∧
    pollFast none (seqAt .s5aWait :: msecs 2 ++ [seqAt .s5aWait]) (at_ .s5aWait) = false ∧
    pollFast none (msecs 2 ++ [seqAt .s5aWait]) (at_ .s5aWait) = true := by decide

/-- R86, U13: a `TX` of a status byte never sent, and such a byte read in its format, are refused. -/
theorem test_status_never_sent_is_refused :
    fetchEvent (.tx 0x83#8) (at_ .s3Tx3) = .undecodable .statusNeverSent ∧
    fetchEvent (.wordIn .status [0x83#8]) State.reset = .undecodable .statusNeverSent ∧
    fetchEvent (.row (.frame 0#8 0#8 0#8 0x83#8)) (at_ .s3Tx0) = .undecodable .illFormed := by decide

/-! ## Witnesses: a state for the hypotheses of each obligation -/

theorem test_witness_row_ready (mode : CountMode) (new prev : Sample) : RowReady (coded mode new prev) mode new prev :=
  ⟨rfl, rfl, rfl, rfl, rfl⟩

/-- The state of `test_witness_row_ready`, for `DecStepAppliesTheTableEntry`; both directions of counting exist. -/
theorem test_witness_dec_step :
    (coded .quarter 0b10#2 0b00#2).dpend = true ∧ (coded .quarter 0b10#2 0b00#2).imask = false := by decide

theorem test_witness_cyclic_walk :
    ∀ m ∈ [CountMode.quarter, .coarse], (coded m 0b11#2 0b11#2).prev = (coded m 0b11#2 0b11#2).enc ∧
      (coded m 0b11#2 0b11#2).imask = false ∧ (coded m 0b11#2 0b11#2).cfg.countMode = m := by decide

theorem test_witness_double_bit : State.reset.imask = false := by decide

theorem test_witness_missed_edges :
    (coded .quarter 0b01#2 0b01#2).prev = (coded .quarter 0b01#2 0b01#2).enc ∧ (coded .quarter 0b01#2 0b01#2).imask = false ∧
    (coded .quarter 0b01#2 0b01#2).dpend = true ∧ (coded .quarter 0b01#2 0b01#2).cfg.countMode = .quarter ∧
    1 % 4 = 1 ∧ 2 % 4 = 2 ∧ 3 % 4 = 3 ∧ 4 % 4 = 0 := by decide

theorem test_witness_line_change : (0b10#2 : Sample) ≠ State.reset.enc ∧ (0b00#2 : Sample) = State.reset.enc := by decide

theorem test_witness_clk :
    { State.reset with tpend := true }.tpend = true ∧ { State.reset with tpend := true }.imask = false := by decide

theorem test_witness_handlers_wait :
    State.reset.dpend = false ∧ State.reset.tpend = false ∧ { State.reset with imask := true }.imask = true := by decide

theorem test_witness_snap_read : { State.reset with imask := true }.imask = true := by decide

/-- The line changes, a tick and both handlers fall inside the critical section. -/
theorem test_witness_snapshot_pair :
    ∃ t, State.reset.seq = .s1Enter ∧ AgentEvent.seq ∉ [AgentEvent.enc 0b10#2, .dec, .tick] ∧
      AgentEvent.seq ∉ [AgentEvent.clk, .rx 0x50#8] ∧
      runTrace (agents (.seq :: [.enc 0b10#2, .dec, .tick] ++ .seq :: [.clk, .rx 0x50#8] ++ [.seq])) State.reset = .next t :=
  ⟨_, rfl, by decide, by decide, rfl⟩

theorem test_witness_host_byte :
    { State.reset with rxq := [1#8] }.rxq.length < State.reset.cfg.rxDepth ∧
    State.reset.cfg.rxDepth ≤ { State.reset with rxq := [1#8, 2#8] }.rxq.length := by decide

theorem test_witness_apply :
    { State.reset with errst := .noError }.errst = .noError ∧ State.reset.errst ≠ .noError ∧
    { State.reset with errst := .commandTimeout }.errst ≠ .noError := by decide

/-- The bounds of each class: 0x00, 0x7F; 0x81, 0xFF; 0x80; each with and without an error active (`test_witness_apply`). -/
theorem test_witness_command_classes :
    (0x00#8 = (0#7).setWidth 8 ∧ 0x7F#8 = (127#7).setWidth 8) ∧
    ((1#7 : Seven) ≠ 0#7 ∧ 0x81#8 = ((1#7).setWidth 8 ||| 0x80#8) ∧ (127#7 : Seven) ≠ 0#7 ∧
      0xFF#8 = ((127#7).setWidth 8 ||| 0x80#8)) ∧
    { State.reset with cmd := 0x80#8 }.cmd = 0x80#8 ∧ State.reset.cmd ≠ 0x80#8 := by decide

theorem test_witness_outputs_hold :
    (∀ e ∈ [Event.agent .seq], isAgentEvent Config.default e = true) ∧
    (after (step { at_ .s1Apply with trace := [.agent .seq], cmd := 0x90#8, errst := .noError })).map
      (fun t => (t.duty, t.dir)) = some (32#8, .reverse) := by decide

/-- Each micro-state is some state's: the hypothesis `s.seq = q` of the statements on micro-states. -/
theorem test_witness_micro_state (q : SeqState) : (at_ q).seq = q ∧ (at_ q).txReady = true := ⟨rfl, rfl⟩

theorem test_witness_s1_read :
    { at_ .s1Read with imask := true }.imask = true ∧ { at_ .s1Read with imask := true }.seq = .s1Read := by decide

theorem test_witness_transmit_blocked :
    { at_ .s3Tx0 with txReady := false }.txReady = false ∧ { at_ .s3Tx3 with txReady := false }.seq = .s3Tx3 := by decide

theorem test_witness_status :
    (at_ .s3Tx3).errst = .poweredOn ∧ { at_ .s3Tx3 with errst := .commandTimeout }.errst = .commandTimeout ∧
    { at_ .s3Tx3 with errst := .noError, elapsed := 127#8 }.errst = .noError ∧
    { at_ .s3Tx3 with errst := .noError, elapsed := 127#8 }.elapsed = (127#7).setWidth 8 := by decide

theorem test_witness_frame :
    { at_ .s3Tx0 with snapPos := 0x1234#16, snapErr := 0x07#8 }.snapPos = hostPosition 0x34#8 0x12#8 ∧
    { at_ .s3Tx0 with snapPos := 0x1234#16, snapErr := 0x07#8 }.snapErr = 0x07#8 ∧
    { at_ .s3Tx0 with snapPos := 0x1234#16, snapErr := 0x07#8 }.status = 0x81#8 ∧
    (at_ .s3Tx0).seq = .s3Tx0 ∧ (at_ .s3Tx0).txReady = true := by decide

/-- The four polls of `S4_AWAIT` at `TIMEOUT_TICKS` - 1 and at `TIMEOUT_TICKS`. -/
theorem test_witness_await :
    (at_ .s4Await).rxq = [] ∧ { at_ .s4Await with rxq := [1#8] }.rxq ≠ [] ∧
    (49#8).toNat < (at_ .s4Await).cfg.timeoutTicks ∧ (at_ .s4Await).cfg.timeoutTicks ≤ (50#8).toNat := by decide

theorem test_witness_received : { at_ .s5aStore with rxq := [1#8, 2#8] }.rxq = 1#8 :: [2#8] := by decide

/-- The four polls of `S5A_WAIT` at the bounds. -/
theorem test_witness_cadence_poll :
    (19#8).toNat < (at_ .s5aWait).cfg.cadenceTicks ∧ (20#8).toNat = (at_ .s5aWait).cfg.cadenceTicks ∧
    (21#8).toNat ≠ (at_ .s5aWait).cfg.cadenceTicks ∧ (at_ .s5aWait).cfg.cadenceTicks ≤ (20#8).toNat ∧
    (21#8 : Byte) ≠ 20#8 := by decide

theorem test_witness_drain : { at_ .s5bDrain with rxq := [1#8] }.rxq = 1#8 :: [] ∧ (at_ .s5bDrain).rxq = [] := by decide

theorem test_witness_timeout_wait :
    { at_ .s5bWait with ms := 61#8, t0 := 60#8 }.ms ≠ { at_ .s5bWait with ms := 61#8, t0 := 60#8 }.t0 ∧
    (at_ .s5bWait).ms = (at_ .s5bWait).t0 := by decide

/-- A state of the invariant with an event to come; it also steps. -/
theorem test_witness_invariant : Inv { State.reset with trace := [.agent .seq] } where
  cfgWf := by decide
  agentsOnly := by
    show ∀ e ∈ [Event.agent .seq], isAgentEvent Config.default e = true
    decide
  maskIff := by decide
  gated := by decide
  dutyScaled := ⟨0#7, rfl⟩
  rxBound := by decide
  stored := by decide
  marked := by decide
  drained := by decide
  framed := by decide

theorem test_witness_invariant_steps :
    (after (step { State.reset with trace := [.agent .seq] })).map State.seq = some .s1Read ∧
    State.reset.seq ∉ blockingStates := by decide

theorem test_witness_unselected :
    State.reset.seq ≠ .s5bMark ∧ State.reset.cfg.countMode ≠ .coarse ∧ State.reset.enc ++ State.reset.prev ≠ 1#4 ∧
    State.reset.dpend = false ∧ { State.reset with imask := true }.imask = true := by decide

/-- The command, status and frame rows that are not admitted, each condition by one state; an event not enabled that goes on. -/
theorem test_witness_unselected_rows :
    State.reset.cmd ≠ (1#7).setWidth 8 ∧ State.reset.cmd ≠ ((1#7).setWidth 8 ||| 0x80#8) ∧ State.reset.cmd ≠ 0x80#8 ∧
    State.reset.seq ≠ .s3Tx3 ∧ { at_ .s3Tx3 with txReady := false }.txReady = false ∧ (at_ .s3Tx3).errst ≠ .noError ∧
    (at_ .s3Tx3).errst ≠ .commandTimeout ∧ { at_ .s3Tx3 with errst := .noError }.errst ≠ .poweredOn ∧
    (at_ .s3Tx3).elapsed ≠ (1#7).setWidth 8 ∧ (at_ .s3Tx0).snapPos ≠ hostPosition 1#8 0#8 ∧ (at_ .s3Tx0).snapErr ≠ 1#8 ∧
    (at_ .s3Tx0).status ≠ 0#8 := by decide

theorem test_witness_event_not_enabled :
    ∃ t, isAgentEvent State.reset.cfg (.agent .dec) = true ∧ eventEnabled (.agent .dec) State.reset = false ∧
      runEvent (.agent .dec) State.reset = .next t :=
  ⟨_, by decide, by decide, rfl⟩

theorem test_witness_event_enabled :
    ∀ e ∈ [Event.agent .seq, .agent (.rx 1#8), seqAt .s1Enter, .agent (.ready false), .agent (.enc 0b10#2)],
      eventEnabled e State.reset = true := by decide

theorem test_witness_illegal_reads :
    (at_ .s1Read).imask = false ∧ (at_ .s1Read).seq = .s1Read ∧ (at_ .s5aStore).rxq = [] := by decide

/-- One tick missing and five ticks missing. -/
theorem test_witness_cadence_ends :
    (at_ .s5aWait).imask = false ∧ (at_ .s5aWait).tpend = false ∧ (at_ .s5aWait).cfg.cadenceTicks < 256 ∧
    { at_ .s5aWait with elapsed := 7#8 }.elapsed.toNat < (at_ .s5aWait).cfg.cadenceTicks ∧
    { at_ .s5aWait with ms := 19#8 }.ms.toNat + (0 + 1) = (at_ .s5aWait).cfg.cadenceTicks ∧
    { at_ .s5aWait with ms := 15#8 }.ms.toNat + (4 + 1) = (at_ .s5aWait).cfg.cadenceTicks := by decide

theorem test_witness_silence_ends :
    (at_ .s4Await).imask = false ∧ (at_ .s4Await).tpend = false ∧ (at_ .s4Await).cfg.timeoutTicks < 256 ∧
    (at_ .s4Await).rxq = [] ∧ { at_ .s4Await with ms := 49#8 }.ms.toNat + (0 + 1) = (at_ .s4Await).cfg.timeoutTicks ∧
    (at_ .s4Await).ms.toNat + (49 + 1) = (at_ .s4Await).cfg.timeoutTicks := by decide

theorem test_witness_error_transitions :
    { at_ .s2Ack with cmd := 0x80#8 }.cmd = 0x80#8 ∧ { at_ .s5bMark with errst := .noError }.errst = .noError ∧
    (after (runEvent (.agent .seq) { at_ .s2Ack with cmd := 0x80#8 })).map State.errst = some .noError := by decide

theorem test_witness_owners :
    ∀ a ∈ [AgentEvent.enc 0b10#2, .tick, .rx 1#8, .ready false, .dec, .clk, .seq],
      (after (runEvent (.agent a) State.reset)).isSome = true := by decide

theorem test_witness_only_the_snapshot : State.reset.seq ≠ .s1Read := by decide

/-- A run of one step from a timeout's mark. -/
theorem test_witness_sentinel :
    ∃ s t, s.AgentsOnly ∧ s.seq = .s5bDrain ∧ s.errst ≠ .noError ∧ Runs (fun u => u.seq ≠ .s5aRec) s t ∧ t.seq = .s5bRef :=
  ⟨{ at_ .s5bDrain with rxq := [0x80#8], trace := [.agent .seq] }, _,
   (by show ∀ e ∈ [Event.agent .seq], isAgentEvent Config.default e = true
       decide), rfl, by decide, Runs.step (Runs.refl _) (by decide) rfl, rfl⟩

/-- The property of `ELAPSED` at power-on, and in the recovery from a timeout, where it holds by its second form. -/
theorem test_witness_elapsed_tells :
    ElapsedTells State.reset ∧ ElapsedTells { at_ .s5bRef with elapsed := 0xFF#8 } ∧
    { at_ .s5aRec with ms := 127#8 }.ms.toNat < 128 :=
  ⟨.inl (by decide), .inr (by decide), by decide⟩

/-- A poll at 48, one CLK step, the byte, the poll that sees it at 49, one CLK step in the gap: 50 is recorded, `k` = 1. -/
theorem test_witness_status_bit_seven :
    ∃ u t, (at_ .s4Await).seq = .s4Await ∧ { at_ .s4Await with ms := 48#8 }.ms.toNat < (at_ .s4Await).cfg.timeoutTicks ∧
      (at_ .s4Await).cfg.timeoutTicks + 1 < 256 ∧
      pollFast (some 0) (agents ([.tick, .clk, .rx 0x50#8] ++ [.seq])) { at_ .s4Await with ms := 48#8 } = true ∧
      staysAt .s4Await (agents ([.tick, .clk, .rx 0x50#8] ++ [.seq])) { at_ .s4Await with ms := 48#8 } = true ∧
      runTrace (agents ([.tick, .clk, .rx 0x50#8] ++ [.seq])) { at_ .s4Await with ms := 48#8 } = .next u ∧
      u.seq = .s5aStore ∧ AgentEvent.seq ∉ [AgentEvent.tick, .clk] ∧ AgentEvent.seq ∉ ([] : List AgentEvent) ∧
      ([AgentEvent.tick, .clk] ++ []).count AgentEvent.clk ≤ 1 ∧
      runTrace (agents ([.tick, .clk] ++ .seq :: [] ++ [.seq])) u = .next t ∧ t.elapsed = 50#8 :=
  ⟨_, _, rfl, by decide, by decide, by decide, by decide, rfl, rfl, by decide, by decide, by decide, rfl, rfl⟩

/-- Words in a known format, rows outright and `TX` events: each clause of the statement has its state. -/
theorem test_witness_step_events :
    decodeWord State.reset.cfg [0#8, 0#8] = .error .wrongLength ∧
    decode State.reset.cfg .status [0x81#8] = .ok .statusPoweredOn ∧
    decode State.reset.cfg .status [0x83#8] = .error .statusNeverSent ∧
    (Instr.dec).wf State.reset.cfg = true ∧ (Instr.rev 0#7).wf State.reset.cfg = false ∧
    State.reset.cfg.sendsStatus 0x83#8 = false ∧ State.reset.cfg.sendsStatus 0x81#8 = true ∧
    (at_ .s3Tx3).txByte = some 0x81#8 ∧ (at_ .s3Tx3).txByte ≠ some 0x82#8 ∧ (at_ .s3Tx0).seq ≠ .s3Tx3 ∧
    (at_ .s3Tx0).txByte = some 0#8 := by decide

theorem test_witness_step_word :
    { State.reset with trace := [.word [0x0E#8]] }.trace = .word [0x0E#8] :: [] ∧
    decodeWord State.reset.cfg [0x0E#8] = .ok .q14 := by decide

theorem test_witness_round_trip :
    ∀ i ∈ [Instr.q14, .c3, .ack, .fwd 127#7, .rev 1#7, .statusElapsed 127#7, .statusPoweredOn, .statusCommandTimeout,
           .frame 1#8 2#8 3#8 4#8],
      i.wf Config.default = true ∧ (encode Config.default i).isSome = true := by decide

theorem test_witness_decode :
    decode Config.default .command [0xFF#8] = .ok (.rev 127#7) ∧ decode Config.default .quarterCode [15#8] = .ok .q15 := by
  decide

theorem test_witness_command_byte : (0x7F#8).toNat < 0x80 ∧ (0x80#8).toNat = 0x80 ∧ 0x80 < (0x81#8).toNat := by decide

end Sys2Proof.Tests
end

/-! PROOFS of the scope family: rows and events that are not selected or not enabled move nothing (R10, R87), and the invariant
at power-on (R7, R281). -/

namespace Sys2Proof.Machine

/-! ## A row that is not selected -/

/-- What a code row does, both tables: the DEC step of its code with the table's action (R103, R120). -/
theorem exec_codeRow (mode : CountMode) (code : Code) (s : State) :
    exec (codeRow mode code) s = codeStep mode code (tableOf mode code) s := by
  obtain ⟨⟨n, hn⟩⟩ := code
  cases mode <;> interval_cases n <;> rfl

/-- A code row moves nothing in another build, at another code, without a request, or under the mask (R8, R100, R161). -/
theorem codeStep_unselected {mode : CountMode} {code : Code} {s : State} (act : Action)
    (h : s.cfg.countMode ≠ mode ∨ s.code ≠ code ∨ s.dpend = false ∨ s.imask = true) :
    codeStep mode code act s = .next s := by
  by_cases hsel : s.cfg.countMode = mode ∧ s.code = code
  · have hheld : s.irqEnabled .edge = false := by
      rcases h with hm | hc | hd | hi
      · exact absurd hsel.1 hm
      · exact absurd hsel.2 hc
      · simp [hd]
      · simp [hi]
    simp [codeStep, hsel, takeInterrupt_held hheld]
  · exact when_not (by simpa using hsel) s _

/-- The row of a micro-state moves nothing while `SEQ` holds another (R33, R200). -/
theorem exec_seqRow_elsewhere {q : SeqState} {s : State} (h : s.seq ≠ q) : exec (seqRow q) s = .next s := by
  cases q <;> rw [seqRow, exec] <;> exact atState_elsewhere h _

/-- A status row moves nothing outside `S3_TX3`, with the transport not ready, or where its form does not hold (R205, R210). -/
theorem sendStatus_unselected {form : Bool} {s : State}
    (h : s.seq ≠ .s3Tx3 ∨ s.txReady = false ∨ form = false) : sendStatus form s = .next s := by
  by_cases hq : s.seq = .s3Tx3
  · rw [sendStatus, atState_here hq]
    rcases h with hne | hr | hf
    · exact absurd hq hne
    · cases form with
      | false => rfl
      | true => exact transmit_blocked hr _ _
    · exact when_not hf s _
  · exact atState_elsewhere hq _

/-- A frame moves nothing outside `S3_TX0`, with the transport not ready, or where the device's bytes are others (R82, R207). -/
theorem execFrame_unselected {lo hi err status : Byte} {s : State}
    (h : s.seq ≠ .s3Tx0 ∨ s.txReady = false ∨ s.frameBytes ≠ [lo, hi, err, status]) :
    execFrame lo hi err status s = .next s := by
  by_cases hq : s.seq = .s3Tx0
  · rw [execFrame, atState_here hq]
    rcases h with hne | hr | hb
    · exact absurd hq hne
    · exact when_not (by simp [hr]) s _
    · exact when_not (by simp [hb]) s _
  · exact atState_elsewhere hq _

/-- `SNAP_POS` is its high byte followed by its low byte (R53). -/
theorem positionHigh_append_positionLow (s : State) : s.positionHigh ++ s.positionLow = s.snapPos := by
  rw [State.positionHigh, State.positionLow,
    BitVec.extractLsb'_append_extractLsb'_eq_extractLsb' (show 8 = 0 + 8 from rfl)]
  exact BitVec.extractLsb'_eq_self

/-- The frame's four bytes determine the three registers they are taken from (R82). -/
theorem registers_of_frameBytes {lo hi err status : Byte} {s : State} (h : s.frameBytes = [lo, hi, err, status]) :
    s.snapPos = hi ++ lo ∧ s.snapErr = err ∧ s.status = status := by
  simp only [State.frameBytes, List.cons.injEq, and_true] at h
  obtain ⟨rfl, rfl, rfl, rfl⟩ := h
  exact ⟨(positionHigh_append_positionLow s).symm, rfl, rfl⟩

/-! ## A row that is not enabled -/

theorem eq_of_next_eq_next {o : Out} {s t : State} (hs : o = .next s) (ht : o = .next t) : t = s :=
  Host.Outcome.next.inj (ht.symm.trans hs)

theorem rowEnabled_codeRow (mode : CountMode) (code : Code) (s : State) :
    rowEnabled (codeRow mode code) s =
      (decide (codeRow mode code = codeRow s.cfg.countMode s.code) && s.irqEnabled .edge) := by
  obtain ⟨⟨n, hn⟩⟩ := code
  cases mode <;> interval_cases n <;> rfl

theorem rowEnabled_seqRow (q : SeqState) (s : State) :
    rowEnabled (seqRow q) s = (decide (seqRow q = seqRow s.seq) && agentEnabled .seq s) := by
  cases q <;> rfl

/-- A code row moves the machine only at the code formed and with the request admitted, where it is enabled (R100, R161). -/
theorem codeRow_keeps_of_not_enabled {i : Instr} {mode : CountMode} {s t : State} (hi : ∃ code, i = codeRow mode code)
    (hr : rowEnabled i s = false) (h : exec i s = .next t) : t = s := by
  obtain ⟨code, rfl⟩ := hi
  rw [exec_codeRow] at h
  rcases codeStep_next_cases h with ht | ⟨rfl, rfl, hd, hm, -⟩
  · exact ht
  · simp [rowEnabled_codeRow, hd, hm] at hr

/-- The sequencer's own step, not enabled: a transmit state or the drain waits, `S5A_STORE` stops (R41, R43, R218). -/
theorem seqRow_here_keeps_of_not_enabled {s t : State} (ha : agentEnabled .seq s = false)
    (h : exec (seqRow s.seq) s = .next t) : t = s := by
  cases hq : s.seq <;> simp only [agentEnabled, hq, reduceCtorEq] at ha <;> rw [hq, seqRow, exec] at h
  case s3Tx0 | s3Tx1 | s3Tx2 | s3Tx3 =>
    rcases atState_next_cases h with ⟨-, ht⟩ | ⟨-, hsend⟩
    · exact ht
    · exact eq_of_next_eq_next (transmit_blocked ha _ _) hsend
  case s5aStore =>
    have hnil : s.rxq = [] := by simpa [State.byteAvailable] using ha
    rw [execS5aStore, atState_here hq, readByte_nil hnil] at h
    exact nomatch h
  case s5bDrain =>
    rw [execS5bDrain, atState_here hq] at h
    exact eq_of_next_eq_next (when_not ha s _) h

/-- The nineteen micro-states of R200. -/
def microStates : List SeqState :=
  [.s1Enter, .s1Read, .s1Exit, .s1Apply, .s2Ack, .s3Tx0, .s3Tx1, .s3Tx2, .s3Tx3, .s4Await,
   .s5aStore, .s5aRec, .s5aWait, .s5aClear, .s5bMark, .s5bDrain, .s5bRef, .s5bWait, .s5bClear]

/-- A micro-state's row that is not enabled: `SEQ` is elsewhere, or the sequencer's own step is not enabled. -/
theorem seqRow_keeps_of_not_enabled {i : Instr} {s t : State} (hi : i ∈ microStates.map seqRow)
    (hr : rowEnabled i s = false) (h : exec i s = .next t) : t = s := by
  obtain ⟨q, -, rfl⟩ := List.mem_map.mp hi
  by_cases hq : s.seq = q
  · subst hq
    exact seqRow_here_keeps_of_not_enabled (by simpa [rowEnabled_seqRow] using hr) h
  · exact eq_of_next_eq_next (exec_seqRow_elsewhere hq) h

/-- A send that asserts its bytes, where it is not enabled: `SEQ` is elsewhere, the transport is not ready, or the bytes are
others (R87, log 16). -/
theorem send_not_enabled_cases {q : SeqState} {form : Bool} {s : State}
    (hsend : s.seq = q → agentEnabled .seq s = s.txReady)
    (hr : (decide (s.seq = q) && form && agentEnabled .seq s) = false) :
    s.seq ≠ q ∨ s.txReady = false ∨ form = false := by
  by_cases hq : s.seq = q
  · cases form with
    | false => exact .inr (.inr rfl)
    | true => exact .inr (.inl (by simpa [hq, hsend hq] using hr))
  · exact .inl hq

theorem agentEnabled_seq_s3Tx0 {s : State} (hq : s.seq = .s3Tx0) : agentEnabled .seq s = s.txReady := by
  simp only [agentEnabled, hq]

theorem agentEnabled_seq_s3Tx3 {s : State} (hq : s.seq = .s3Tx3) : agentEnabled .seq s = s.txReady := by
  simp only [agentEnabled, hq]

/-- An agent's row that is not enabled changes nothing where it does not stop (R10, R87; log 7). -/
theorem row_keeps_of_not_enabled {i : Instr} {s t : State} (ha : isAgentRow i = true) (hr : rowEnabled i s = false)
    (h : exec i s = .next t) : t = s := by
  cases i with
  | q0 | q1 | q2 | q3 | q4 | q5 | q6 | q7 | q8 | q9 | q10 | q11 | q12 | q13 | q14 | q15 =>
    exact codeRow_keeps_of_not_enabled (mode := .quarter) (by decide) hr h
  | c0 | c1 | c2 | c3 | c4 | c5 | c6 | c7 | c8 | c9 | c10 | c11 | c12 | c13 | c14 | c15 =>
    exact codeRow_keeps_of_not_enabled (mode := .coarse) (by decide) hr h
  | s1Enter | s1Read | s1Exit | s1Apply | s2Ack | s3Tx0 | s3Tx1 | s3Tx2 | s3Tx3 | s4Await
  | s5aStore | s5aRec | s5aWait | s5aClear | s5bMark | s5bDrain | s5bRef | s5bWait | s5bClear =>
    exact seqRow_keeps_of_not_enabled (by decide) hr h
  | statusElapsed | statusPoweredOn | statusCommandTimeout =>
    exact eq_of_next_eq_next (sendStatus_unselected (send_not_enabled_cases agentEnabled_seq_s3Tx3 hr)) h
  | frame lo hi err status =>
    have hsel := send_not_enabled_cases agentEnabled_seq_s3Tx0 hr
    rw [decide_eq_false_iff_not] at hsel
    exact eq_of_next_eq_next (execFrame_unselected hsel) h
  | dec | clk =>
    rw [exec] at h
    exact eq_of_next_eq_next (takeInterrupt_held hr _) h
  | tick | enc => exact nomatch hr
  | rx b => exact absurd (receive_next_cases h).1 (of_decide_eq_false hr)
  | ack | fwd | rev | csEnter | snapRead | csExit | apply | ackchk | forceZero | msRead | msClear => exact nomatch ha

/-- An agents' event that is not enabled, by what it fetches: a row that is not enabled, or nothing (R87). -/
theorem event_keeps_of_not_enabled {e : Event} {s t : State} (ha : isAgentEvent s.cfg e = true)
    (he : eventEnabled e s = false) (h : runEvent e s = .next t) : t = s := by
  rcases runEvent_next_cases h with ⟨i, hf, hx⟩ | ⟨r, hf, -⟩ | ⟨-, ht⟩
  · have hr : rowEnabled i s = false := by simpa only [eventEnabled, hf] using he
    exact row_keeps_of_not_enabled (fetchEvent_run_isAgentRow ha hf) hr hx
  · simp [eventEnabled, hf] at he
  · exact ht

/-- Settles O42: the model's choice of log 7, clause by clause. -/
theorem unselectedRowsMoveNothing : Obligations.UnselectedRowsMoveNothing := by
  refine ⟨fun e s t => event_keeps_of_not_enabled, fun q s => exec_seqRow_elsewhere, ?code, ?command, ?status, ?frame⟩
  case code =>
    intro mode code s h
    rw [exec_codeRow]
    exact codeStep_unselected _ h
  case command =>
    intro m s
    rw [exec, exec, exec]
    exact ⟨fun h => when_not (decide_eq_false h) s _, fun h => when_not (decide_eq_false h) s _,
      fun h => when_not (decide_eq_false h) s _⟩
  case status =>
    refine fun v s => ⟨fun h => sendStatus_unselected ?_, fun h => sendStatus_unselected ?_,
      fun h => sendStatus_unselected ?_⟩
    · simpa [imp_iff_not_or] using h
    · simpa using h
    · simpa using h
  case frame =>
    intro lo hi err st s h
    have hbytes : s.snapPos ≠ hi ++ lo ∨ s.snapErr ≠ err ∨ s.status ≠ st → s.frameBytes ≠ [lo, hi, err, st] := by
      intro hne hb
      obtain ⟨hpos, herr, hst⟩ := registers_of_frameBytes hb
      simp [hpos, herr, hst] at hne
    exact execFrame_unselected (h.imp_right (Or.imp_right hbytes))

/-! ## The invariant at power-on -/

/-- Every clause but R7's is about a register that power-on sets, so a build that meets R7 starts in the invariant. -/
theorem inv_powerOn {c : Config} (hc : c.wf = true) (e : Sample) : Inv (State.powerOn c e) where
  cfgWf := hc
  agentsOnly := by simp [State.AgentsOnly]
  maskIff := by simp
  gated _ := rfl
  dutyScaled := ⟨0#7, (scaledDuty_zero c).symm⟩
  rxBound := Nat.zero_le _
  stored := by simp
  marked := by simp [inRecovery]
  drained := by simp
  framed := rfl

/-- Settles O51: power-on of any build that meets R7; reset is power-on of the default build. -/
theorem invariantHoldsAtPowerOn : Obligations.InvariantHoldsAtPowerOn :=
  ⟨fun _ e hc => inv_powerOn hc e, inv_powerOn (by decide) _⟩

end Sys2Proof.Machine

/-! PROOFS of the state family: which agent writes which register (R20, R31, R248), what an event of the trace runs (R33, R59, R87),
the host's byte and the reads that stop by name (R39, R43, R166), power-on (R280). -/

namespace Sys2Proof.Machine

/-! ## What a step of an agent can write -/

/-- What the sequencer leaves to the other agents (R20, R31): it may clear `MS` and take the head of `RXQ`, and writes none of the
decoder's registers, the latches, the inputs, the parameters and the trace. -/
structure SeqFrame (s t : State) : Prop where
  cfg : t.cfg = s.cfg
  trace : t.trace = s.trace
  pos : t.pos = s.pos
  errcnt : t.errcnt = s.errcnt
  prev : t.prev = s.prev
  dpend : t.dpend = s.dpend
  tpend : t.tpend = s.tpend
  enc : t.enc = s.enc
  txReady : t.txReady = s.txReady
  ms : t.ms = s.ms ∨ t.ms = 0#8
  rxq : t.rxq = s.rxq ∨ ∃ b, s.rxq = b :: t.rxq

theorem SeqFrame.refl (s : State) : SeqFrame s s := by constructor <;> simp

/-- The sequencer's own step stays in its frame, micro-state by micro-state (R200). -/
theorem seqFrame_of_exec_seqRow {s t : State} (h : exec (seqRow s.seq) s = .next t) : SeqFrame s t := by
  cases hq : s.seq <;> rw [hq, seqRow, exec] at h <;> replace h := (atState_here hq _).symm.trans h
  case s1Enter | s1Exit | s1Apply | s2Ack | s5aRec | s5aClear | s5bMark | s5bRef | s5bClear =>
    obtain rfl := Host.Outcome.next.inj h
    constructor <;> simp
  case s1Read =>
    obtain ⟨-, hafter⟩ := snapshotPair_next_cases h
    obtain rfl := Host.Outcome.next.inj hafter
    constructor <;> simp
  case s3Tx0 | s3Tx1 | s3Tx2 | s3Tx3 =>
    rcases transmit_next_cases h with ⟨-, rfl⟩ | ⟨-, rfl⟩
    · exact SeqFrame.refl _
    · constructor <;> simp
  case s4Await =>
    split at h <;> obtain rfl := Host.Outcome.next.inj h <;> constructor <;> simp
  case s5aWait | s5bWait =>
    rcases when_next_cases h with ⟨-, rfl⟩ | ⟨-, hgo⟩
    · exact SeqFrame.refl _
    · obtain rfl := Host.Outcome.next.inj hgo
      constructor <;> simp
  case s5aStore =>
    obtain ⟨b, rest, hrx, huse⟩ := readByte_next_cases h
    obtain rfl := Host.Outcome.next.inj huse
    constructor <;> simp [hrx]
  case s5bDrain =>
    rcases when_next_cases h with ⟨-, rfl⟩ | ⟨-, hread⟩
    · exact SeqFrame.refl _
    · obtain ⟨b, rest, hrx, huse⟩ := readByte_next_cases hread
      obtain rfl := Host.Outcome.next.inj huse
      constructor <;> simp [hrx]

/-- DEC does not move, or counts the code of the sample taken now and clears its request (R100, R161). -/
theorem exec_dec_next_cases {s t : State} (h : exec .dec s = .next t) :
    t = s ∨ t = (s.count (tbl s.cfg s.code)).clearPending .edge := by
  rw [exec, execDec] at h
  exact (takeInterrupt_next_cases h).imp And.right And.right

/-- CLK does not move, or counts the tick and clears its request (R151, R161). -/
theorem exec_clk_next_cases {s t : State} (h : exec .clk s = .next t) :
    t = s ∨ t = s.countTick.clearPending .tick := by
  rw [exec, execClk] at h
  exact (takeInterrupt_next_cases h).imp And.right And.right

/-- Settles O47: each agent's next state is that of the operation it runs; the sequencer's stays in its frame. -/
theorem registersAreWrittenByTheirOwners : Obligations.RegistersAreWrittenByTheirOwners := by
  intro a s t h
  cases a with
  | enc smp =>
    obtain rfl := Host.Outcome.next.inj h
    by_cases hsame : smp = s.enc <;> simp [hsame]
  | tick | ready =>
    obtain rfl := Host.Outcome.next.inj h
    simp
  | rx b =>
    obtain ⟨-, rfl⟩ := receive_next_cases h
    simp
  | dec => rcases exec_dec_next_cases h with rfl | rfl <;> simp
  | clk => rcases exec_clk_next_cases h with rfl | rfl <;> simp
  | seq =>
    have hf : SeqFrame s t := seqFrame_of_exec_seqRow h
    exact ⟨hf.cfg, hf.trace, fun _ => ⟨hf.pos, hf.errcnt, hf.prev⟩, fun hms => .inr ⟨rfl, hf.ms.resolve_left hms⟩,
      fun hne => absurd rfl hne, fun hd => absurd hf.dpend hd, fun ht => absurd hf.tpend ht,
      fun he => absurd hf.enc he, fun hr => absurd hf.txReady hr, fun hq => .inr ⟨rfl, hf.rxq.resolve_left hq⟩⟩

/-! ## The host's byte, the reads that stop, power-on -/

theorem receive_of_room {b : Byte} {s : State} (h : s.rxq.length < s.cfg.rxDepth) :
    receive b s = .next { s with rxq := s.rxq ++ [b] } := if_pos h

theorem receive_of_full {b : Byte} {s : State} (h : s.cfg.rxDepth ≤ s.rxq.length) :
    receive b s = .refused .rxOverrun := if_neg (Nat.not_lt.mpr h)

/-- Settles O23: R39's two cases are those of `receive`. -/
theorem hostByteIsQueuedOrRefused : Obligations.HostByteIsQueuedOrRefused :=
  fun _ _ => ⟨receive_of_room, receive_of_full⟩

theorem snapshotPair_unmasked {s : State} (h : s.imask = false) (after : State → Out) :
    snapshotPair s after = .fault .snapshotUnmasked := by
  simp only [snapshotPair, h, Bool.false_eq_true, if_false]

/-- Settles O43: the snapshot's precondition fails at both of its reads (log 12), and `readByte` has no head to take (log 13). -/
theorem illegalReadsStopByName : Obligations.IllegalReadsStopByName := by
  refine fun s => ⟨fun hm => snapshotPair_unmasked hm _, fun hm hq => ?_, fun hq hnil => ?_⟩
  · rw [exec, execS1Read, atState_here hq, snapshotPair_unmasked hm]
  · rw [exec, execS5aStore, atState_here hq, readByte_nil hnil]

/-- Settles O49: the values R24 to R26 and R33 give, by the fields of the power-on state. -/
theorem powerOnLeavesTheStatedValues : Obligations.PowerOnLeavesTheStatedValues :=
  fun c e => ⟨State.powerOn_errst c e, State.powerOn_cmd c e, State.powerOn_ms c e, State.powerOn_seq c e, rfl⟩

/-! ## The row an event runs -/

/-- A step whose event fetches a row executes it, past the event. -/
theorem step_of_fetch_run {s : State} {e : Event} {rest : List Event} {i : Instr} (htr : s.trace = e :: rest)
    (hf : fetchEvent e { s with trace := rest } = .run i) : step s = exec i { s with trace := rest } := by
  simp only [step_of_trace_cons htr, runEvent, hf]

/-- A step whose event is not enabled only takes the event. -/
theorem step_of_fetch_idle {s : State} {e : Event} {rest : List Event} (htr : s.trace = e :: rest)
    (hf : fetchEvent e { s with trace := rest } = .idle) : step s = .next { s with trace := rest } := by
  simp only [step_of_trace_cons htr, runEvent, hf]

/-- A step whose event is no line of a trace of this device is refused, with the reason. -/
theorem step_of_fetch_undecodable {s : State} {e : Event} {rest : List Event} {err : DecodeError}
    (htr : s.trace = e :: rest) (hf : fetchEvent e { s with trace := rest } = .undecodable err) :
    step s = .refused (.undecodable err) := by
  simp only [step_of_trace_cons htr, runEvent, hf]

theorem fetchDecoded_of_ok {d : Except DecodeError Instr} {i : Instr} (h : d = .ok i) : fetchDecoded d = .run i := by
  simp only [fetchDecoded, h]

theorem fetchDecoded_of_error {d : Except DecodeError Instr} {err : DecodeError} (h : d = .error err) :
    fetchDecoded d = .undecodable err := by
  simp only [fetchDecoded, h]

theorem fetchEvent_row_of_wf {i : Instr} {s : State} (h : i.wf s.cfg = true) : fetchEvent (.row i) s = .run i := if_pos h

theorem fetchEvent_row_of_not_wf {i : Instr} {s : State} (h : i.wf s.cfg = false) :
    fetchEvent (.row i) s = .undecodable .illFormed := if_neg (Bool.eq_false_iff.mp h)

theorem fetchTx_neverSent {b : Byte} {s : State} (hq : s.seq = .s3Tx3) (hb : s.cfg.sendsStatus b = false) :
    fetchTx b s = .undecodable .statusNeverSent := if_pos ⟨hq, hb⟩

/-- Where `b` is no status byte that is never sent, `TX b` is the sequencer's step or nothing (R86, R87). -/
theorem fetchTx_sendable {b : Byte} {s : State} (hb : s.seq = .s3Tx3 → s.cfg.sendsStatus b = true) :
    fetchTx b s = if s.txByte = some b then .run (seqRow s.seq) else .idle :=
  if_neg fun hnever => absurd (hb hnever.1) (Bool.eq_false_iff.mp hnever.2)

/-- Settles O56: the trace's head is the event taken, and what it fetches is said by the lemmas above. -/
theorem stepRunsTheDecodedRow : Obligations.StepRunsTheDecodedRow := by
  intro s rest
  refine ⟨?word, ?wordError, ?wordIn, ?wordInError, ?row, ?rowIllFormed, ?txNeverSent, ?txSent, ?txOther,
    ?seq, ?dec, ?clk, ?enc, ?rx, ?tick, ?ready, step_of_trace_nil⟩
  case word => exact fun _ _ htr hd => step_of_fetch_run htr (fetchDecoded_of_ok hd)
  case wordError => exact fun _ _ htr hd => step_of_fetch_undecodable htr (fetchDecoded_of_error hd)
  case wordIn => exact fun _ _ _ htr hd => step_of_fetch_run htr (fetchDecoded_of_ok hd)
  case wordInError => exact fun _ _ _ htr hd => step_of_fetch_undecodable htr (fetchDecoded_of_error hd)
  case row => exact fun _ htr hwf => step_of_fetch_run htr (fetchEvent_row_of_wf hwf)
  case rowIllFormed => exact fun _ htr hwf => step_of_fetch_undecodable htr (fetchEvent_row_of_not_wf hwf)
  case txNeverSent => exact fun _ htr hq hb => step_of_fetch_undecodable htr (fetchTx_neverSent hq hb)
  case txSent => exact fun _ htr hb htx => step_of_fetch_run htr ((fetchTx_sendable hb).trans (if_pos htx))
  case txOther => exact fun _ htr hb htx => step_of_fetch_idle htr ((fetchTx_sendable hb).trans (if_neg htx))
  case seq | dec | clk | tick => exact fun htr => step_of_fetch_run htr rfl
  case enc | rx => exact fun _ htr => step_of_fetch_run htr rfl
  case ready => exact fun _ htr => step_of_trace_cons htr

end Sys2Proof.Machine

/-! PROOFS of the memory family: the snapshot pair taken inside the critical section (R56, R168, R170), what the sequencer reads of
the decoder's counters (R56), the frame it sends of the snapshot (R53, R82, R88). -/

namespace Sys2Proof.Machine

/-! ## Traces of agents' steps -/

theorem agents_cons (a : AgentEvent) (as : List AgentEvent) : agents (a :: as) = .agent a :: agents as := rfl

theorem agents_append (as bs : List AgentEvent) : agents (as ++ bs) = agents as ++ agents bs := List.map_append

theorem runTrace_cons_of_next {e : Event} {es : List Event} {s t : State} (h : runEvent e s = .next t) :
    runTrace (e :: es) s = runTrace es t := by
  simp only [runTrace, h]

/-- A trace that goes on took its first event's step and went on from there. -/
theorem runTrace_cons_next_cases {e : Event} {es : List Event} {s t : State} (h : runTrace (e :: es) s = .next t) :
    ∃ u, runEvent e s = .next u ∧ runTrace es u = .next t := by
  rw [runTrace] at h
  split at h
  · next u hu => exact ⟨u, hu, h⟩
  · exact nomatch h
  · exact nomatch h

/-- A trace that goes on went through a state between any two parts of it. -/
theorem runTrace_append_next_cases {es fs : List Event} {s t : State} (h : runTrace (es ++ fs) s = .next t) :
    ∃ u, runTrace es s = .next u ∧ runTrace fs u = .next t := by
  induction es generalizing s with
  | nil => exact ⟨s, rfl, h⟩
  | cons e es ih =>
    obtain ⟨u, hu, hrest⟩ := runTrace_cons_next_cases h
    rw [runTrace_cons_of_next hu]
    exact ih hrest

/-! ## The critical section -/

/-- The sequencer's event runs the row of the micro-state `SEQ` holds (R33). -/
theorem runEvent_seq {s : State} {q : SeqState} (hq : s.seq = q) : runEvent (.agent .seq) s = exec (seqRow q) s := by
  subst hq
  rfl

theorem runEvent_seq_s1Enter {s : State} (hq : s.seq = .s1Enter) :
    runEvent (.agent .seq) s = .next (s.maskOn.goto .s1Read) := by
  rw [runEvent_seq hq, seqRow, exec, execS1Enter, atState_here hq]

theorem snapshotPair_masked {s : State} (h : s.imask = true) (after : State → Out) :
    snapshotPair s after = after { s with snapPos := s.pos, snapErr := s.errcnt } := if_pos h

theorem runEvent_seq_s1Read {s : State} (hq : s.seq = .s1Read) (hm : s.imask = true) :
    runEvent (.agent .seq) s = .next ({ s with snapPos := s.pos, snapErr := s.errcnt }.goto .s1Exit) := by
  rw [runEvent_seq hq, seqRow, exec, execS1Read, atState_here hq, snapshotPair_masked hm]

theorem runEvent_seq_s1Exit {s : State} (hq : s.seq = .s1Exit) :
    runEvent (.agent .seq) s = .next (s.maskOff.goto .s1Apply) := by
  rw [runEvent_seq hq, seqRow, exec, execS1Exit, atState_here hq]

/-- What the critical section holds still between two sequencer steps (R169, R170): the decoder's registers, the clock's count, the
snapshot, the mask and `SEQ`. -/
structure CriticalFrame (s t : State) : Prop where
  pos : t.pos = s.pos
  errcnt : t.errcnt = s.errcnt
  prev : t.prev = s.prev
  ms : t.ms = s.ms
  snapPos : t.snapPos = s.snapPos
  snapErr : t.snapErr = s.snapErr
  imask : t.imask = s.imask
  seq : t.seq = s.seq

theorem CriticalFrame.refl (s : State) : CriticalFrame s s := by constructor <;> rfl

theorem CriticalFrame.trans {s t u : State} (hst : CriticalFrame s t) (htu : CriticalFrame t u) : CriticalFrame s u where
  pos := htu.pos.trans hst.pos
  errcnt := htu.errcnt.trans hst.errcnt
  prev := htu.prev.trans hst.prev
  ms := htu.ms.trans hst.ms
  snapPos := htu.snapPos.trans hst.snapPos
  snapErr := htu.snapErr.trans hst.snapErr
  imask := htu.imask.trans hst.imask
  seq := htu.seq.trans hst.seq

/-- The mask holds both handlers back (R161). -/
theorem handler_masked {a : AgentEvent} {s : State} (ha : a = .dec ∨ a = .clk) (hm : s.imask = true) :
    runEvent (.agent a) s = .next s := by
  have hheld (q : Irq) : s.irqEnabled q = false := by simp [State.irqEnabled, hm]
  rcases ha with rfl | rfl
  · exact takeInterrupt_held (hheld .edge) fun s => s.count (tbl s.cfg s.code)
  · exact takeInterrupt_held (hheld .tick) State.countTick

/-- Inside the critical section the handlers wait, and no other agent but the sequencer owns a register of the frame (R20, R31). -/
theorem criticalFrame_of_runEvent {a : AgentEvent} {s t : State} (ha : a ≠ .seq) (hm : s.imask = true)
    (h : runEvent (.agent a) s = .next t) : CriticalFrame s t := by
  by_cases hh : a = .dec ∨ a = .clk
  · obtain rfl := eq_of_next_eq_next (handler_masked hh hm) h
    exact CriticalFrame.refl t
  · obtain ⟨hdec, hclk⟩ := not_or.mp hh
    obtain ⟨-, -, hcount, hms, hrest, -⟩ := registersAreWrittenByTheirOwners a s t h
    obtain ⟨hpos, herr, hprev⟩ := hcount hdec
    obtain ⟨-, -, -, hsp, hse, -, -, himask, hseq, -⟩ := hrest ha
    have hkeep : t.ms = s.ms := by
      by_contra hne
      rcases hms hne with ⟨hc, -⟩ | ⟨hs, -⟩
      · exact hclk hc
      · exact ha hs
    exact ⟨hpos, herr, hprev, hkeep, hsp, hse, himask, hseq⟩

theorem criticalFrame_of_runTrace {as : List AgentEvent} {s t : State} (has : AgentEvent.seq ∉ as) (hm : s.imask = true)
    (h : runTrace (agents as) s = .next t) : CriticalFrame s t := by
  induction as generalizing s with
  | nil =>
    obtain rfl := Host.Outcome.next.inj h
    exact CriticalFrame.refl s
  | cons a as ih =>
    obtain ⟨hne, hrest⟩ := List.ne_and_not_mem_of_not_mem_cons has
    obtain ⟨u, hu, hrun⟩ := runTrace_cons_next_cases h
    have hsu : CriticalFrame s u := criticalFrame_of_runEvent hne.symm hm hu
    exact hsu.trans (ih hrest (hsu.imask.trans hm) hrun)

/-- Settles O22: the run is cut at the three sequencer steps; the critical frame carries the pair to the read, and the snapshot from
the read to the exit. -/
theorem snapshotPairIsAtomic : Obligations.SnapshotPairIsAtomic := by
  intro s t as bs hq has hbs h
  rw [agents_append, agents_append] at h
  obtain ⟨v, hv, hexit⟩ := runTrace_append_next_cases h
  obtain ⟨u, hu, hread⟩ := runTrace_append_next_cases hv
  rw [agents_cons, runTrace_cons_of_next (runEvent_seq_s1Enter hq)] at hu
  have hsu : CriticalFrame (s.maskOn.goto .s1Read) u := criticalFrame_of_runTrace has rfl hu
  rw [agents_cons, runTrace_cons_of_next (runEvent_seq_s1Read hsu.seq hsu.imask)] at hread
  have huv : CriticalFrame ({ u with snapPos := u.pos, snapErr := u.errcnt }.goto .s1Exit) v :=
    criticalFrame_of_runTrace hbs hsu.imask hread
  rw [agents_cons, runTrace_cons_of_next (runEvent_seq_s1Exit huv.seq)] at hexit
  obtain rfl := Host.Outcome.next.inj hexit
  exact ⟨huv.snapPos.trans hsu.pos, huv.snapErr.trans hsu.errcnt, huv.pos.trans hsu.pos, huv.errcnt.trans hsu.errcnt,
    huv.prev.trans hsu.prev, huv.ms.trans hsu.ms, rfl, rfl⟩

/-! ## The counters are read by the snapshot alone -/

/-- The state with the decoder's two counters replaced. -/
def State.setCounters (s : State) (p : Pos) (e : Byte) : State := { s with pos := p, errcnt := e }

/-- A step that does not read the counters: replacing them before it is replacing them after it. -/
def IgnoresCounters (body : State → Out) : Prop :=
  ∀ (p : Pos) (e : Byte) (s : State), body (s.setCounters p e) = withCounters p e (body s)

/-- A step that goes to a next state, by an update that leaves the counters alone. -/
theorem ignoresCounters_next {f : State → State} (hf : ∀ p e s, f (s.setCounters p e) = (f s).setCounters p e) :
    IgnoresCounters fun s => .next (f s) :=
  fun p e s => congrArg Host.Outcome.next (hf p e s)

theorem ignoresCounters_when {c : State → Bool} {body : State → Out} (hc : ∀ p e s, c (s.setCounters p e) = c s)
    (hbody : IgnoresCounters body) : IgnoresCounters fun s => when (c s) s body := by
  intro p e s
  simp only [hc]
  cases c s with
  | false => rfl
  | true => exact hbody p e s

theorem ignoresCounters_atState {q : SeqState} {body : State → Out} (hbody : IgnoresCounters body) :
    IgnoresCounters fun s => atState q s body :=
  ignoresCounters_when (fun _ _ _ => rfl) hbody

theorem ignoresCounters_transmit {b : State → Byte} {q : SeqState} (hb : ∀ p e s, b (s.setCounters p e) = b s) :
    IgnoresCounters fun s => transmit (b s) q s := by
  intro p e s
  simp only [hb]
  exact ignoresCounters_when (c := State.txReady) (fun _ _ _ => rfl) (ignoresCounters_next fun _ _ _ => rfl) p e s

theorem ignoresCounters_readByte {use : Byte → State → Out} (huse : ∀ b, IgnoresCounters (use b)) :
    IgnoresCounters fun s => readByte s use := by
  intro p e s
  cases hrx : s.rxq with
  | nil =>
    have hrx' : (s.setCounters p e).rxq = [] := hrx
    simp only [readByte_nil hrx, readByte_nil hrx', withCounters]
  | cons b rest =>
    have hrx' : (s.setCounters p e).rxq = b :: rest := hrx
    simp only [readByte_cons hrx, readByte_cons hrx']
    exact huse b p e { s with rxq := rest }

theorem acknowledge_setCounters (p : Pos) (e : Byte) (s : State) :
    (s.setCounters p e).acknowledge = s.acknowledge.setCounters p e :=
  (apply_ite (State.setCounters · p e) (s.cmd = Config.sentinel) { s with errst := .noError } s).symm

theorem raiseTimeout_setCounters (p : Pos) (e : Byte) (s : State) :
    (s.setCounters p e).raiseTimeout = s.raiseTimeout.setCounters p e := by
  simp only [State.raiseTimeout, State.setCounters]
  split <;> rfl

/-- A poll of `S4_AWAIT` reads `RXQ` and `MS` (R211), at a tie also the free value (R212). -/
theorem ignoresCounters_execS4Await : IgnoresCounters execS4Await := by
  refine ignoresCounters_atState fun p e s => ?_
  have hb : (s.setCounters p e).byteAvailable = s.byteAvailable := rfl
  have ht : (s.setCounters p e).timedOut = s.timedOut := rfl
  rw [hb, ht]
  cases s.byteAvailable <;> cases s.timedOut <;> rfl

/-- The mark reads `ERRST`, and writes what it writes by value (R217). -/
theorem ignoresCounters_execS5bMark : IgnoresCounters execS5bMark := by
  refine ignoresCounters_atState (ignoresCounters_next fun p e s => ?_)
  rw [raiseTimeout_setCounters]
  rfl

/-- No micro-state but `S1_READ` reads a counter (R200). -/
theorem ignoresCounters_seqRow {q : SeqState} (hq : q ≠ .s1Read) : IgnoresCounters (exec (seqRow q)) := by
  cases q with
  | s1Read => exact absurd rfl hq
  | s1Enter | s1Exit | s1Apply | s5aRec | s5aClear | s5bRef | s5bClear =>
    exact ignoresCounters_atState (ignoresCounters_next fun _ _ _ => rfl)
  | s2Ack =>
    exact ignoresCounters_atState
      (ignoresCounters_next fun p e s => congrArg (State.goto · .s3Tx0) (acknowledge_setCounters p e s))
  | s3Tx0 | s3Tx1 | s3Tx2 | s3Tx3 => exact ignoresCounters_atState (ignoresCounters_transmit fun _ _ _ => rfl)
  | s4Await => exact ignoresCounters_execS4Await
  | s5aStore =>
    exact ignoresCounters_atState (ignoresCounters_readByte fun _ => ignoresCounters_next fun _ _ _ => rfl)
  | s5aWait | s5bWait =>
    exact ignoresCounters_atState
      (ignoresCounters_when (fun _ _ _ => rfl) (ignoresCounters_next fun _ _ _ => rfl))
  | s5bMark => exact ignoresCounters_execS5bMark
  | s5bDrain =>
    exact ignoresCounters_atState
      (ignoresCounters_when (fun _ _ _ => rfl)
        (ignoresCounters_readByte fun _ => ignoresCounters_next fun _ _ _ => rfl))

/-- Settles O48: the counters do not change `SEQ`, so both sides run the same micro-state's row. -/
theorem onlyTheSnapshotReadsTheCounters : Obligations.OnlyTheSnapshotReadsTheCounters :=
  fun p e s hq => ignoresCounters_seqRow hq p e s

/-! ## The frame -/

theorem frameBytes_of_registers {lo hi err st : Byte} {s : State} (hpos : s.snapPos = hi ++ lo) (herr : s.snapErr = err)
    (hst : s.status = st) : s.frameBytes = [lo, hi, err, st] := by
  have hlo : s.positionLow = lo := by rw [State.positionLow, hpos, BitVec.extractLsb'_append_eq_right]
  have hhi : s.positionHigh = hi := by rw [State.positionHigh, hpos, BitVec.extractLsb'_append_eq_left]
  rw [State.frameBytes, hlo, hhi, herr, hst]

/-- A send leaves the registers that the frame is made of. -/
theorem frameBytes_sent (s : State) (b : Byte) : (s.sent b).frameBytes = s.frameBytes := rfl

theorem goto_self {s : State} {q : SeqState} (hq : s.seq = q) : s.goto q = s := by
  subst hq
  rfl

theorem sent_four_goto (s : State) (b0 b1 b2 b3 : Byte) (q : SeqState) :
    ((((s.sent b0).sent b1).sent b2).sent b3).goto q = { s with txlog := s.txlog ++ [b0, b1, b2, b3], seq := q } := by
  simp only [State.sent, State.goto, List.append_assoc, List.cons_append, List.nil_append]

/-- A transmit state's step, with the transport ready: it sends the frame's byte at that state's place and goes to its one
successor (R40, R200, R207 to R210). -/
theorem runEvent_seq_transmit {s : State} {b : Byte} {q r : SeqState} (hr : s.txReady = true)
    (hq : q ∈ [SeqState.s3Tx0, .s3Tx1, .s3Tx2, .s3Tx3]) (hb : s.frameBytes[frameIndex q]? = some b)
    (hnext : successors q = [r]) : runEvent (.agent .seq) (s.goto q) = .next ((s.sent b).goto r) := by
  have hs : (s.goto q).seq = q := rfl
  have hgo : (s.goto q).txReady = true := hr
  simp only [List.mem_cons, List.not_mem_nil, or_false] at hq
  rcases hq with rfl | rfl | rfl | rfl
  all_goals
    obtain rfl := Option.some.inj hb
    obtain rfl := List.singleton_inj.mp hnext
    exact (runEvent_seq hs).trans ((atState_here hs _).trans (transmit_ready hgo _ _))

/-- The four transmit states, one after another, send the frame's four bytes (R82, R88). -/
theorem runTrace_seq_frame {lo hi err st : Byte} {s : State} (hr : s.txReady = true)
    (hb : s.frameBytes = [lo, hi, err, st]) :
    runTrace (agents [.seq, .seq, .seq, .seq]) (s.goto .s3Tx0) =
      .next (((((s.sent lo).sent hi).sent err).sent st).goto .s4Await) := by
  have h0 : runEvent (.agent .seq) (s.goto .s3Tx0) = .next ((s.sent lo).goto .s3Tx1) :=
    runEvent_seq_transmit hr (by decide) (by rw [hb]; rfl) rfl
  have h1 : runEvent (.agent .seq) ((s.sent lo).goto .s3Tx1) = .next (((s.sent lo).sent hi).goto .s3Tx2) :=
    runEvent_seq_transmit hr (by decide) (by rw [frameBytes_sent, hb]; rfl) rfl
  have h2 : runEvent (.agent .seq) (((s.sent lo).sent hi).goto .s3Tx2) =
      .next ((((s.sent lo).sent hi).sent err).goto .s3Tx3) :=
    runEvent_seq_transmit hr (by decide) (by rw [frameBytes_sent, frameBytes_sent, hb]; rfl) rfl
  have h3 : runEvent (.agent .seq) ((((s.sent lo).sent hi).sent err).goto .s3Tx3) =
      .next (((((s.sent lo).sent hi).sent err).sent st).goto .s4Await) :=
    runEvent_seq_transmit hr (by decide) (by simp only [frameBytes_sent, hb]; rfl) rfl
  rw [agents_cons, runTrace_cons_of_next h0, agents_cons, runTrace_cons_of_next h1, agents_cons,
    runTrace_cons_of_next h2, agents_cons, runTrace_cons_of_next h3]
  rfl

/-- A frame whose bytes the device holds, with the transport ready, is sent whole (R82, R88). -/
theorem execFrame_selected {lo hi err st : Byte} {s : State} (hq : s.seq = .s3Tx0) (hr : s.txReady = true)
    (hb : s.frameBytes = [lo, hi, err, st]) :
    execFrame lo hi err st s = .next (((((s.sent lo).sent hi).sent err).sent st).goto .s4Await) := by
  rw [execFrame, atState_here hq, when_of (by simp [hb, hr])]

/-- Settles O34: the row and the four steps reach the same state, by the frame's bytes; the host's rebuilding is the snapshot. -/
theorem frameSendsFourBytesInOrder : Obligations.FrameSendsFourBytesInOrder := by
  intro lo hi err st s hq hr hpos herr hst
  have hb : s.frameBytes = [lo, hi, err, st] := frameBytes_of_registers hpos herr hst
  have hsteps := runTrace_seq_frame hr hb
  rw [goto_self hq] at hsteps
  rw [← sent_four_goto]
  exact ⟨execFrame_selected hq hr hb, hsteps, hpos.symm⟩

end Sys2Proof.Machine

/-! PROOFS of the encoding family: the encoder and the decoder are inverse to each other (R70, R71, R78, R81, R82, R86), the classes
of command byte (R78), and what bit 7 of the status byte tells (R86, R205, R214, R223, R224). -/

namespace Sys2Proof

/-! ## A byte is a 7-bit field, with or without the flag in bit 7 (R77, R81) -/

theorem setWidth_seven_of_field (v : Seven) : (v.setWidth 8).setWidth 7 = v := by simp

theorem bit_seven_of_field (v : Seven) : (v.setWidth 8).getLsbD 7 = false := by simp

theorem setWidth_seven_of_errorStatus (v : Seven) : (errorStatus v).setWidth 7 = v := by simp [errorStatus]

theorem bit_seven_of_errorStatus (v : Seven) : (errorStatus v).getLsbD 7 = true := by simp [errorStatus]

theorem errorStatus_inj {v w : Seven} : errorStatus v = errorStatus w ↔ v = w := by
  refine ⟨fun h => ?_, congrArg errorStatus⟩
  rw [← setWidth_seven_of_errorStatus v, h, setWidth_seven_of_errorStatus]

/-- The sentinel is the flag over the field 0 (R78). -/
theorem sentinel_eq_errorStatus : Config.sentinel = errorStatus 0#7 := rfl

/-- Bit 7 marks the upper half of a byte's range. -/
theorem bit_seven_set_iff {b : Byte} : b.getLsbD 7 = true ↔ 0x80 ≤ b.toNat := by
  rw [← BitVec.msb_eq_getLsbD_last (x := b), BitVec.msb_eq_decide, decide_eq_true_eq]

theorem bit_seven_clear_iff {b : Byte} : b.getLsbD 7 = false ↔ b.toNat < 0x80 := by
  rw [← Bool.not_eq_true, bit_seven_set_iff, not_le]

theorem field_of_bit_seven_clear {b : Byte} (h : b.getLsbD 7 = false) : (b.setWidth 7).setWidth 8 = b := by
  rw [bit_seven_clear_iff] at h
  apply BitVec.eq_of_toNat_eq
  simp only [BitVec.toNat_setWidth]
  omega

theorem errorStatus_of_bit_seven_set {b : Byte} (h : b.getLsbD 7 = true) : errorStatus (b.setWidth 7) = b := by
  ext i hi
  rcases Nat.lt_succ_iff_lt_or_eq.mp hi with hlow | rfl
  · interval_cases i <;> simp [errorStatus]
  · exact (bit_seven_of_errorStatus _).trans h.symm

/-! ## Decoder codes (R71) -/

/-- The format of a table's codes (R70). -/
def codeFormat (mode : CountMode) : Format :=
  match mode with
  | .quarter => .quarterCode
  | .coarse => .coarseCode

theorem decode_codeFormat (c : Config) (mode : CountMode) (b : Byte) :
    decode c (codeFormat mode) [b] = decodeCode mode b := by
  cases mode <;> rfl

theorem encode_codeRow (c : Config) (mode : CountMode) (code : Code) :
    encode c (codeRow mode code) = some (codeFormat mode, codeBytes code) := by
  obtain ⟨⟨n, hn⟩⟩ := code
  cases mode <;> interval_cases n <;> rfl

theorem codeRow_wf (c : Config) (mode : CountMode) (code : Code) : (codeRow mode code).wf c = true := by
  obtain ⟨⟨n, hn⟩⟩ := code
  cases mode <;> interval_cases n <;> rfl

theorem decodeCode_setWidth (mode : CountMode) (code : Code) :
    decodeCode mode (code.setWidth 8) = .ok (codeRow mode code) := by
  have hlt : (code.setWidth 8).toNat < 16 := by
    rw [BitVec.toNat_setWidth_of_le (by omega)]
    exact code.isLt
  have hback : (code.setWidth 8).setWidth 4 = code := by simp
  rw [decodeCode, if_pos hlt, hback]

/-- A byte that is read as a code holds that code and nothing above it. -/
theorem decodeCode_ok_cases {mode : CountMode} {b : Byte} {i : Instr} (h : decodeCode mode b = .ok i) :
    ∃ code : Code, b = code.setWidth 8 ∧ i = codeRow mode code := by
  unfold decodeCode at h
  split at h
  · next hlt =>
    refine ⟨b.setWidth 4, BitVec.eq_of_toNat_eq ?_, (Except.ok.inj h).symm⟩
    simp only [BitVec.toNat_setWidth]
    omega
  · exact nomatch h

/-! ## Command bytes (R77, R78) -/

theorem decodeCommand_sentinel : decodeCommand Config.sentinel = .ack := if_pos rfl

theorem decodeCommand_of_bit_seven_clear {b : Byte} (h : b.getLsbD 7 = false) :
    decodeCommand b = .fwd (b.setWidth 7) := by
  have hne : b ≠ Config.sentinel := by
    rintro rfl
    exact nomatch h
  simp only [decodeCommand, if_neg hne, h, Bool.false_eq_true, if_false]

theorem decodeCommand_of_bit_seven_set {b : Byte} (h : b.getLsbD 7 = true) (hne : b ≠ Config.sentinel) :
    decodeCommand b = .rev (b.setWidth 7) := by
  simp only [decodeCommand, if_neg hne, h, if_true]

/-- Every byte is the sentinel, or a field without the flag, or a field other than 0 under it (R79). -/
theorem command_byte_cases (b : Byte) :
    b = Config.sentinel ∨ (∃ m : Seven, b = m.setWidth 8) ∨ ∃ m : Seven, m ≠ 0#7 ∧ b = errorStatus m := by
  cases hbit : b.getLsbD 7 with
  | false => exact .inr (.inl ⟨b.setWidth 7, (field_of_bit_seven_clear hbit).symm⟩)
  | true =>
    have hb := errorStatus_of_bit_seven_set hbit
    by_cases hm : b.setWidth 7 = 0#7
    · exact .inl (by rw [← hb, hm, sentinel_eq_errorStatus])
    · exact .inr (.inr ⟨b.setWidth 7, hm, hb.symm⟩)

theorem decodeCommand_field (m : Seven) : decodeCommand (m.setWidth 8) = .fwd m := by
  rw [decodeCommand_of_bit_seven_clear (bit_seven_of_field m), setWidth_seven_of_field]

theorem decodeCommand_errorStatus {m : Seven} (hm : m ≠ 0#7) : decodeCommand (errorStatus m) = .rev m := by
  have hne : errorStatus m ≠ Config.sentinel := by rwa [sentinel_eq_errorStatus, ne_eq, errorStatus_inj]
  rw [decodeCommand_of_bit_seven_set (bit_seven_of_errorStatus m) hne, setWidth_seven_of_errorStatus]

/-- What a command byte decodes to is well formed and is encoded as that byte. -/
theorem encode_decodeCommand (c : Config) (b : Byte) :
    (decodeCommand b).wf c = true ∧ encode c (decodeCommand b) = some (.command, [b]) := by
  rcases command_byte_cases b with rfl | ⟨m, rfl⟩ | ⟨m, hm, rfl⟩
  · exact ⟨rfl, rfl⟩
  · rw [decodeCommand_field]
    exact ⟨rfl, rfl⟩
  · rw [decodeCommand_errorStatus hm]
    exact ⟨decide_eq_true hm, rfl⟩

/-- Settles O59: R78's ranges are those of bit 7, the sentinel being the least byte of the upper half. -/
theorem everyCommandByteHasItsClass : Obligations.EveryCommandByteHasItsClass := by
  intro b
  refine ⟨fun hlt => ?fwd, fun heq => ?ack, fun hgt => ?rev⟩
  case fwd =>
    rw [decodeCommand_of_bit_seven_clear (bit_seven_clear_iff.mpr hlt)]
    rfl
  case ack =>
    obtain rfl : b = Config.sentinel := BitVec.eq_of_toNat_eq heq
    exact decodeCommand_sentinel
  case rev =>
    have hne : b ≠ Config.sentinel := by
      rintro rfl
      exact absurd hgt (by decide)
    have hfield : b.setWidth 7 = BitVec.ofNat 7 (b.toNat - 0x80) := by
      apply BitVec.eq_of_toNat_eq
      simp only [BitVec.toNat_setWidth, BitVec.toNat_ofNat]
      omega
    rw [decodeCommand_of_bit_seven_set (bit_seven_set_iff.mpr hgt.le) hne, hfield]

/-! ## Status bytes (R81, R86, R205) -/

theorem decodeStatus_field (c : Config) (v : Seven) : decodeStatus c (v.setWidth 8) = .ok (.statusElapsed v) := by
  rw [decodeStatus, if_pos (bit_seven_of_field v), setWidth_seven_of_field]

theorem decodeStatus_poweredOn (c : Config) : decodeStatus c (errorStatus c.codePoweredOn) = .ok .statusPoweredOn := by
  rw [decodeStatus, if_neg (by simp [bit_seven_of_errorStatus]), if_pos rfl]

/-- The two error codes are distinct (R7), so the second status byte is not read as the first. -/
theorem decodeStatus_commandTimeout {c : Config} (hne : c.codePoweredOn ≠ c.codeCommandTimeout) :
    decodeStatus c (errorStatus c.codeCommandTimeout) = .ok .statusCommandTimeout := by
  rw [decodeStatus, if_neg (by simp [bit_seven_of_errorStatus]), if_neg (by rw [errorStatus_inj]; exact hne.symm),
    if_pos rfl]

/-- A byte that is read as a status byte has one of the three forms. -/
theorem decodeStatus_ok_cases {c : Config} {b : Byte} {i : Instr} (h : decodeStatus c b = .ok i) :
    (∃ v : Seven, b = v.setWidth 8 ∧ i = .statusElapsed v) ∨
    (b = errorStatus c.codePoweredOn ∧ i = .statusPoweredOn) ∨
    (b = errorStatus c.codeCommandTimeout ∧ i = .statusCommandTimeout) := by
  unfold decodeStatus at h
  split at h
  · next hbit => exact .inl ⟨b.setWidth 7, (field_of_bit_seven_clear hbit).symm, (Except.ok.inj h).symm⟩
  · split at h
    · next hb => exact .inr (.inl ⟨hb, (Except.ok.inj h).symm⟩)
    · split at h
      · next hb => exact .inr (.inr ⟨hb, (Except.ok.inj h).symm⟩)
      · exact nomatch h

/-- What a status byte decodes to is well formed and is encoded as that byte. -/
theorem encode_of_decodeStatus {c : Config} {b : Byte} {i : Instr} (h : decodeStatus c b = .ok i) :
    i.wf c = true ∧ encode c i = some (.status, [b]) := by
  rcases decodeStatus_ok_cases h with ⟨v, rfl, rfl⟩ | ⟨rfl, rfl⟩ | ⟨rfl, rfl⟩ <;> exact ⟨rfl, rfl⟩

theorem sendsStatus_iff {c : Config} {b : Byte} :
    c.sendsStatus b = true ↔
      b.getLsbD 7 = false ∨ b = errorStatus c.codePoweredOn ∨ b = errorStatus c.codeCommandTimeout := by
  simp only [Config.sendsStatus, errorStatus, Bool.or_eq_true, Bool.not_eq_true', decide_eq_true_eq, or_assoc]

/-- The bytes that decode as a status byte are those the device sends (R86). -/
theorem decodeStatus_ok_iff {c : Config} {b : Byte} : (∃ i, decodeStatus c b = .ok i) ↔ c.sendsStatus b = true := by
  rw [sendsStatus_iff, decodeStatus]
  split_ifs with hbit hpow htime
  · exact iff_of_true ⟨_, rfl⟩ (.inl hbit)
  · exact iff_of_true ⟨_, rfl⟩ (.inr (.inl hpow))
  · exact iff_of_true ⟨_, rfl⟩ (.inr (.inr htime))
  · exact iff_of_false (fun ⟨_, h⟩ => nomatch h) (by simp [*])

/-! ## Frames (R82) -/

/-- A frame decodes where its fourth byte is a status byte that is sent, to its four bytes. -/
theorem decode_frame_ok_iff {c : Config} {b0 b1 b2 b3 : Byte} {i : Instr} :
    decode c .frame [b0, b1, b2, b3] = .ok i ↔ c.sendsStatus b3 = true ∧ i = .frame b0 b1 b2 b3 := by
  rw [decode, ← decodeStatus_ok_iff]
  cases decodeStatus c b3 <;> simp [eq_comm]

/-! ## The round trips -/

/-- A word that decodes, by its format: the number of bytes is the format's, and its bytes are read as that format says. -/
theorem decode_ok_cases {c : Config} {f : Format} {bytes : List Byte} {i : Instr} (h : decode c f bytes = .ok i) :
    (∃ mode b, f = codeFormat mode ∧ bytes = [b] ∧ decodeCode mode b = .ok i) ∨
    (∃ b, f = .command ∧ bytes = [b] ∧ i = decodeCommand b) ∨
    (∃ b, f = .status ∧ bytes = [b] ∧ decodeStatus c b = .ok i) ∨
    (∃ b0 b1 b2 b3, f = .frame ∧ bytes = [b0, b1, b2, b3]) := by
  unfold decode at h
  split at h
  · next b => exact .inl ⟨.quarter, b, rfl, rfl, h⟩
  · next b => exact .inl ⟨.coarse, b, rfl, rfl, h⟩
  · next b => exact .inr (.inl ⟨b, rfl, rfl, (Except.ok.inj h).symm⟩)
  · next b => exact .inr (.inr (.inl ⟨b, rfl, rfl, h⟩))
  · next b0 b1 b2 b3 => exact .inr (.inr (.inr ⟨b0, b1, b2, b3, rfl, rfl⟩))
  · exact nomatch h
  · exact nomatch h

/-- Settles O58: by the format the word was read in. -/
theorem encodeInvertsDecode : Obligations.EncodeInvertsDecode := by
  intro c f bytes i _ h
  rcases decode_ok_cases h with ⟨mode, b, rfl, rfl, hcode⟩ | ⟨b, rfl, rfl, rfl⟩ | ⟨b, rfl, rfl, hst⟩ |
    ⟨b0, b1, b2, b3, rfl, rfl⟩
  · obtain ⟨code, rfl, rfl⟩ := decodeCode_ok_cases hcode
    exact ⟨codeRow_wf c mode code, encode_codeRow c mode code⟩
  · exact encode_decodeCommand c b
  · exact encode_of_decodeStatus hst
  · obtain ⟨hsends, rfl⟩ := decode_frame_ok_iff.mp h
    exact ⟨hsends, rfl⟩

/-- One instruction's round trip, from the word it is encoded as. -/
theorem decode_of_encode {c : Config} {i : Instr} {f f' : Format} {bytes bytes' : List Byte}
    (henc : encode c i = some (f', bytes')) (hdec : decode c f' bytes' = .ok i)
    (h : encode c i = some (f, bytes)) : decode c f bytes = .ok i := by
  obtain ⟨rfl, rfl⟩ : f' = f ∧ bytes' = bytes := by simpa using henc.symm.trans h
  exact hdec

theorem decode_encode_codeRow {c : Config} {i : Instr} {mode : CountMode} {f : Format} {bytes : List Byte}
    (hi : ∃ code, i = codeRow mode code) (h : encode c i = some (f, bytes)) : decode c f bytes = .ok i := by
  obtain ⟨code, rfl⟩ := hi
  exact decode_of_encode (encode_codeRow c mode code)
    ((decode_codeFormat c mode _).trans (decodeCode_setWidth mode code)) h

theorem codes_ne_of_wf {c : Config} (h : c.wf = true) : c.codePoweredOn ≠ c.codeCommandTimeout := by
  simp only [Config.wf, Bool.and_eq_true, decide_eq_true_eq] at h
  obtain ⟨⟨⟨-, hne⟩, -⟩, -⟩ := h
  exact hne

/-- Settles O57: row by row; R7 tells the two error status bytes apart, and well-formedness gives a reverse magnitude other than 0
and a frame's status byte that is sent. -/
theorem decodeInvertsEncode : Obligations.DecodeInvertsEncode := by
  intro c i f bytes hc hwf h
  cases i with
  | q0 | q1 | q2 | q3 | q4 | q5 | q6 | q7 | q8 | q9 | q10 | q11 | q12 | q13 | q14 | q15 =>
    exact decode_encode_codeRow (mode := .quarter) (by decide) h
  | c0 | c1 | c2 | c3 | c4 | c5 | c6 | c7 | c8 | c9 | c10 | c11 | c12 | c13 | c14 | c15 =>
    exact decode_encode_codeRow (mode := .coarse) (by decide) h
  | ack => exact decode_of_encode rfl (congrArg Except.ok decodeCommand_sentinel) h
  | fwd m => exact decode_of_encode rfl (congrArg Except.ok (decodeCommand_field m)) h
  | rev m =>
    have hm : m ≠ 0#7 := of_decide_eq_true hwf
    exact decode_of_encode rfl (congrArg Except.ok (decodeCommand_errorStatus hm)) h
  | statusElapsed v => exact decode_of_encode rfl (decodeStatus_field c v) h
  | statusPoweredOn => exact decode_of_encode rfl (decodeStatus_poweredOn c) h
  | statusCommandTimeout => exact decode_of_encode rfl (decodeStatus_commandTimeout (codes_ne_of_wf hc)) h
  | frame lo hi err status => exact decode_of_encode rfl (decode_frame_ok_iff.mpr ⟨hwf, rfl⟩) h
  | _ => exact nomatch h

/-- Settles O60: the eleven words are evaluated, bit by bit as written. -/
theorem writtenWordsDecode : Obligations.WrittenWordsDecode := by
  unfold Obligations.WrittenWordsDecode
  decide

end Sys2Proof

namespace Sys2Proof.Machine

/-! ## What a step leaves of the status byte's registers -/

/-- A step that keeps `ELAPSED`, `ERRST` and `CMD`, the registers that decide what the status byte can become. -/
structure StatusFrame (s t : State) : Prop where
  elapsed : t.elapsed = s.elapsed
  errst : t.errst = s.errst
  cmd : t.cmd = s.cmd

/-- A step that keeps them and does not move `SEQ` keeps the property. -/
theorem ElapsedTells.of_frame {s t : State} (hs : ElapsedTells s) (hf : StatusFrame s t) (hq : t.seq = s.seq) :
    ElapsedTells t := by
  rw [ElapsedTells, hf.elapsed, hf.errst, hf.cmd, hq]
  exact hs

/-- So does one that moves `SEQ`, from any state but the two that are exempt from `CMD` = 0, to any state but the two that follow
`S5A_REC`. -/
theorem ElapsedTells.of_frame_move {s t : State} (hs : ElapsedTells s) (hf : StatusFrame s t)
    (hfrom : s.seq ∉ [SeqState.s5bDrain, .s5aRec]) (hto : t.seq ∉ [SeqState.s5aWait, .s5aClear]) : ElapsedTells t := by
  simp only [List.mem_cons, List.not_mem_nil, or_false, not_or] at hfrom hto
  obtain ⟨hdrain, hrec⟩ := hfrom
  obtain ⟨hwait, hclear⟩ := hto
  rw [ElapsedTells, hf.elapsed, hf.errst, hf.cmd]
  refine hs.imp_right fun ⟨herr, _, _, hcmd⟩ => ⟨herr, hwait, hclear, fun _ _ => hcmd hdrain hrec⟩

/-- Between `S5A_REC` and the next cycle `ELAPSED` was recorded from `MS`: bit 7 is clear. -/
theorem ElapsedTells.bit_clear_of_recorded {s : State} (hs : ElapsedTells s) (hq : s.seq = .s5aWait ∨ s.seq = .s5aClear) :
    s.elapsed.getLsbD 7 = false := by
  rcases hs with hbit | ⟨-, hwait, hclear, -⟩
  · exact hbit
  · exact absurd hq (not_or.mpr ⟨hwait, hclear⟩)

/-! ## The sequencer's step -/

theorem next_of_atState_here {q : SeqState} {s t : State} {body : State → Out} (hq : s.seq = q)
    (h : atState q s body = .next t) : body s = .next t :=
  (atState_here hq body).symm.trans h

theorem tieBranch_cases (s : State) : s.tieBranch = .s5aStore ∨ s.tieBranch = .s5bMark := by
  rw [State.tieBranch]
  exact ite_eq_or_eq _ _ _

/-- A poll of `S4_AWAIT` stays, having seen `MS` below the threshold, or leaves to one of the two successors; it keeps `MS` and the
status byte's registers (R200, R211, R212). -/
theorem execS4Await_next_cases {s t : State} (hq : s.seq = .s4Await) (h : execS4Await s = .next t) :
    (s.timedOut = false ∧ t = s) ∨
      (StatusFrame s t ∧ t.ms = s.ms ∧ (t.seq = .s5aStore ∨ t.seq = .s5bMark)) := by
  rw [execS4Await, atState_here hq] at h
  split at h <;> obtain rfl := Host.Outcome.next.inj h
  · exact .inr ⟨⟨rfl, rfl, rfl⟩, rfl, .inl rfl⟩
  · exact .inr ⟨⟨rfl, rfl, rfl⟩, rfl, .inr rfl⟩
  · exact .inr ⟨⟨rfl, rfl, rfl⟩, rfl, tieBranch_cases s⟩
  · next htime => exact .inl ⟨htime, rfl⟩

theorem execS5aStore_next_cases {s t : State} (hq : s.seq = .s5aStore) (h : execS5aStore s = .next t) :
    t.seq = .s5aRec ∧ t.ms = s.ms ∧ t.elapsed = s.elapsed ∧ t.errst = s.errst := by
  rw [execS5aStore, atState_here hq] at h
  obtain ⟨b, rest, -, huse⟩ := readByte_next_cases h
  obtain rfl := Host.Outcome.next.inj huse
  exact ⟨rfl, rfl, rfl, rfl⟩

theorem execS5aRec_here {s : State} (hq : s.seq = .s5aRec) : execS5aRec s = .next ((s.record s.ms).goto .s5aWait) := by
  rw [execS5aRec, atState_here hq, State.readMs]

/-- The sequencer's step keeps the property, micro-state by micro-state (R200): `S2_ACK` finds `CMD` = 0 where bit 7 is set, the drain
writes that 0, the mark raises an error, and `S5A_REC` records an `MS` below 128. -/
theorem elapsedTells_of_exec_seqRow {s t : State} (hs : ElapsedTells s) (hms : s.seq = .s5aRec → s.ms.toNat < 128)
    (h : exec (seqRow s.seq) s = .next t) : ElapsedTells t := by
  cases hq : s.seq <;> rw [hq, seqRow, exec] at h <;> have hbody := next_of_atState_here hq h
  case s1Enter | s1Exit | s1Apply | s5bRef | s5bClear =>
    obtain rfl := Host.Outcome.next.inj hbody
    exact hs.of_frame_move ⟨rfl, rfl, rfl⟩ (by simp [hq]) (by simp)
  case s1Read =>
    obtain ⟨-, hafter⟩ := snapshotPair_next_cases hbody
    obtain rfl := Host.Outcome.next.inj hafter
    exact hs.of_frame_move ⟨rfl, rfl, rfl⟩ (by simp [hq]) (by simp)
  case s2Ack =>
    obtain rfl := Host.Outcome.next.inj hbody
    rcases hs with hbit | ⟨herr, -, -, hcmd⟩
    · exact .inl (by simpa using hbit)
    · have hzero : s.cmd = 0#8 := hcmd (by simp [hq]) (by simp [hq])
      have hno : s.cmd ≠ Config.sentinel := by simp [hzero, Config.sentinel]
      exact .inr ⟨by simp [hno, herr], by simp, by simp, fun _ _ => by simp [hzero]⟩
  case s3Tx0 | s3Tx1 | s3Tx2 | s3Tx3 =>
    rcases transmit_next_cases hbody with ⟨-, rfl⟩ | ⟨-, rfl⟩
    · exact hs
    · exact hs.of_frame_move ⟨rfl, rfl, rfl⟩ (by simp [hq]) (by simp)
  case s4Await =>
    rcases execS4Await_next_cases hq h with ⟨-, rfl⟩ | ⟨hf, -, hto⟩
    · exact hs
    · exact hs.of_frame_move hf (by simp [hq]) (by rcases hto with hto | hto <;> simp [hto])
  case s5aStore =>
    obtain ⟨hto, -, helapsed, herrst⟩ := execS5aStore_next_cases hq h
    rw [ElapsedTells, helapsed, herrst, hto]
    exact hs.imp_right fun ⟨herr, _⟩ => ⟨herr, by simp⟩
  case s5aRec =>
    obtain rfl := Host.Outcome.next.inj ((execS5aRec_here hq).symm.trans h)
    exact .inl (bit_seven_clear_iff.mpr (hms hq))
  case s5aWait =>
    have hbit := hs.bit_clear_of_recorded (.inl hq)
    rcases when_next_cases hbody with ⟨-, rfl⟩ | ⟨-, hgo⟩
    · exact hs
    · obtain rfl := Host.Outcome.next.inj hgo
      exact .inl hbit
  case s5aClear =>
    obtain rfl := Host.Outcome.next.inj hbody
    exact .inl (hs.bit_clear_of_recorded (.inr hq))
  case s5bMark =>
    obtain rfl := Host.Outcome.next.inj hbody
    have herr : s.raiseTimeout.errst ≠ .noError := by
      rw [State.raiseTimeout_errst]
      split <;> simp_all
    exact .inr ⟨herr, by simp, by simp, fun hdrain => absurd rfl hdrain⟩
  case s5bDrain =>
    rcases when_next_cases hbody with ⟨-, rfl⟩ | ⟨-, hread⟩
    · exact hs
    · obtain ⟨b, rest, -, huse⟩ := readByte_next_cases hread
      obtain rfl := Host.Outcome.next.inj huse
      exact hs.imp_right fun ⟨herr, _⟩ => ⟨herr, by simp⟩
  case s5bWait =>
    rcases when_next_cases hbody with ⟨-, rfl⟩ | ⟨-, hgo⟩
    · exact hs
    · obtain rfl := Host.Outcome.next.inj hgo
      exact hs.of_frame_move ⟨rfl, rfl, rfl⟩ (by simp [hq]) (by simp)

/-! ## Every agent's step -/

theorem elapsedTells_of_exec_codeRow {mode : CountMode} {i : Instr} {s t : State} (hi : ∃ code, i = codeRow mode code)
    (hs : ElapsedTells s) (h : exec i s = .next t) : ElapsedTells t := by
  obtain ⟨code, rfl⟩ := hi
  rw [exec_codeRow] at h
  rcases codeStep_next_cases h with rfl | ⟨-, -, -, -, rfl⟩
  · exact hs
  · exact hs.of_frame ⟨rfl, rfl, rfl⟩ rfl

theorem elapsedTells_of_exec_microState {i : Instr} {s t : State} (hi : i ∈ microStates.map seqRow) (hs : ElapsedTells s)
    (hms : s.seq = .s5aRec → s.ms.toNat < 128) (h : exec i s = .next t) : ElapsedTells t := by
  obtain ⟨q, -, rfl⟩ := List.mem_map.mp hi
  by_cases hq : s.seq = q
  · subst hq
    exact elapsedTells_of_exec_seqRow hs hms h
  · obtain rfl := eq_of_next_eq_next (exec_seqRow_elsewhere hq) h
    exact hs

/-- Everything a status row can do: nothing, or the send of `S3_TX3` (R210). -/
theorem sendStatus_next_cases {form : Bool} {s t : State} (h : sendStatus form s = .next t) :
    t = s ∨ (s.seq = .s3Tx3 ∧ t = (s.sent s.status).goto .s4Await) := by
  rcases atState_next_cases h with ⟨-, ht⟩ | ⟨hq, hform⟩
  · exact .inl ht
  · rcases when_next_cases hform with ⟨-, ht⟩ | ⟨-, hsend⟩
    · exact .inl ht
    · exact (transmit_next_cases hsend).imp And.right fun ⟨_, ht⟩ => ⟨hq, ht⟩

theorem elapsedTells_of_sendStatus {form : Bool} {s t : State} (hs : ElapsedTells s) (h : sendStatus form s = .next t) :
    ElapsedTells t := by
  rcases sendStatus_next_cases h with rfl | ⟨hq, rfl⟩
  · exact hs
  · exact hs.of_frame_move ⟨rfl, rfl, rfl⟩ (by simp [hq]) (by simp)

/-- Everything a frame's row can do: nothing, or the four sends (R82, R88). -/
theorem execFrame_next_cases {lo hi err st : Byte} {s t : State} (h : execFrame lo hi err st s = .next t) :
    t = s ∨ (s.seq = .s3Tx0 ∧ t = ((((s.sent lo).sent hi).sent err).sent st).goto .s4Await) := by
  rcases atState_next_cases h with ⟨-, ht⟩ | ⟨hq, hsend⟩
  · exact .inl ht
  · rcases when_next_cases hsend with ⟨-, ht⟩ | ⟨-, hgo⟩
    · exact .inl ht
    · exact .inr ⟨hq, (Host.Outcome.next.inj hgo).symm⟩

theorem elapsedTells_of_exec {i : Instr} {s t : State} (ha : isAgentRow i = true) (hs : ElapsedTells s)
    (hms : s.seq = .s5aRec → s.ms.toNat < 128) (h : exec i s = .next t) : ElapsedTells t := by
  cases i with
  | q0 | q1 | q2 | q3 | q4 | q5 | q6 | q7 | q8 | q9 | q10 | q11 | q12 | q13 | q14 | q15 =>
    exact elapsedTells_of_exec_codeRow (mode := .quarter) (by decide) hs h
  | c0 | c1 | c2 | c3 | c4 | c5 | c6 | c7 | c8 | c9 | c10 | c11 | c12 | c13 | c14 | c15 =>
    exact elapsedTells_of_exec_codeRow (mode := .coarse) (by decide) hs h
  | s1Enter | s1Read | s1Exit | s1Apply | s2Ack | s3Tx0 | s3Tx1 | s3Tx2 | s3Tx3 | s4Await
  | s5aStore | s5aRec | s5aWait | s5aClear | s5bMark | s5bDrain | s5bRef | s5bWait | s5bClear =>
    exact elapsedTells_of_exec_microState (by decide) hs hms h
  | statusElapsed | statusPoweredOn | statusCommandTimeout => exact elapsedTells_of_sendStatus hs h
  | frame lo hi err st =>
    rcases execFrame_next_cases h with rfl | ⟨hq, rfl⟩
    · exact hs
    · exact hs.of_frame_move ⟨by simp, by simp, by simp⟩ (by simp [hq]) (by simp)
  | dec =>
    rcases exec_dec_next_cases h with rfl | rfl
    · exact hs
    · exact hs.of_frame ⟨rfl, rfl, rfl⟩ rfl
  | clk =>
    rcases exec_clk_next_cases h with rfl | rfl
    · exact hs
    · exact hs.of_frame ⟨rfl, rfl, rfl⟩ rfl
  | tick =>
    obtain rfl := Host.Outcome.next.inj h
    exact hs.of_frame ⟨rfl, rfl, rfl⟩ rfl
  | enc smp =>
    obtain rfl := Host.Outcome.next.inj h
    exact hs.of_frame ⟨by simp, by simp, by simp⟩ (by simp)
  | rx b =>
    obtain ⟨-, rfl⟩ := receive_next_cases h
    exact hs.of_frame ⟨rfl, rfl, rfl⟩ rfl
  | ack | fwd | rev | csEnter | snapRead | csExit | apply | ackchk | forceZero | msRead | msClear => exact nomatch ha

/-- An agents' event keeps the property: it runs an agent's row, or sets the readiness, or moves nothing. -/
theorem elapsedTells_of_runEvent {e : Event} {s t : State} (ha : isAgentEvent s.cfg e = true) (hs : ElapsedTells s)
    (hms : s.seq = .s5aRec → s.ms.toNat < 128) (h : runEvent e s = .next t) : ElapsedTells t := by
  rcases runEvent_next_cases h with ⟨i, hf, hx⟩ | ⟨r, -, rfl⟩ | ⟨-, rfl⟩
  · exact elapsedTells_of_exec (fetchEvent_run_isAgentRow ha hf) hs hms hx
  · exact hs.of_frame ⟨rfl, rfl, rfl⟩ rfl
  · exact hs

/-- Taking the event, from the trace or free, changes none of the registers the property reads. -/
theorem elapsedTells_of_step {s t : State} (ha : s.AgentsOnly) (hs : ElapsedTells s)
    (hms : s.seq = .s5aRec → s.ms.toNat < 128) (h : step s = .next t) : ElapsedTells t := by
  cases htr : s.trace with
  | nil =>
    rw [step_of_trace_nil htr] at h
    exact elapsedTells_of_runEvent (s := s.drawn) rfl hs hms h
  | cons e rest =>
    rw [step_of_trace_cons htr] at h
    exact elapsedTells_of_runEvent (s := { s with trace := rest }) (ha e (by simp [htr])) hs hms h

/-- With the property, the status byte is `ELAPSED` with bit 7 clear, or an error code with bit 7 set (R81, R205). -/
theorem status_bit_seven_iff {s : State} (hs : ElapsedTells s) : s.status.getLsbD 7 = true ↔ s.errst ≠ .noError := by
  cases herr : s.errst with
  | noError =>
    have hbit : s.elapsed.getLsbD 7 = false := hs.resolve_right fun ⟨hne, _⟩ => hne herr
    exact iff_of_false (by rw [State.status, herr]; exact Bool.eq_false_iff.mp hbit) (not_not_intro rfl)
  | poweredOn => exact iff_of_true (by rw [State.status, herr]; exact bit_seven_of_errorStatus _) nofun
  | commandTimeout => exact iff_of_true (by rw [State.status, herr]; exact bit_seven_of_errorStatus _) nofun

/-! ## The value recorded under `POLL_FAST` (R223) -/

/-- No agent but the sequencer moves `SEQ`, and only a CLK step that is taken moves `MS` (R20, R151). -/
theorem runEvent_other_next_cases {a : AgentEvent} {s t : State} (ha : a ≠ .seq) (h : runEvent (.agent a) s = .next t) :
    t.cfg = s.cfg ∧ t.seq = s.seq ∧
      (t.ms = s.ms ∨ (a = .clk ∧ isClkStep (.agent .clk) s = true ∧ t.ms = s.ms + 1#8)) := by
  obtain ⟨hcfg, -, -, hms, hrest, -⟩ := registersAreWrittenByTheirOwners a s t h
  obtain ⟨-, -, -, -, -, -, -, -, hseq, -⟩ := hrest ha
  refine ⟨hcfg, hseq, ?_⟩
  by_cases hsame : t.ms = s.ms
  · exact .inl hsame
  · rcases hms hsame with ⟨rfl, hsucc⟩ | ⟨hq, -⟩
    · refine .inr ⟨rfl, ?_, hsucc⟩
      by_contra hheld
      obtain rfl := eq_of_next_eq_next (takeInterrupt_held (q := .tick) (Bool.not_eq_true _ ▸ hheld) _) h
      exact hsame rfl
    · exact absurd hq ha

/-- A counted tick raises `MS` by one, or wraps it to 0 (R151). -/
theorem ms_toNat_succ_le (b : Byte) : (b + 1#8).toNat ≤ b.toNat + 1 := by
  rw [BitVec.toNat_add]
  exact Nat.mod_le _ _

/-- Between two sequencer steps `MS` grows at most by the CLK steps named. -/
theorem ms_le_of_runTrace_others {as : List AgentEvent} {s t : State} (has : AgentEvent.seq ∉ as)
    (h : runTrace (agents as) s = .next t) : t.seq = s.seq ∧ t.ms.toNat ≤ s.ms.toNat + as.count .clk := by
  induction as generalizing s with
  | nil =>
    obtain rfl := Host.Outcome.next.inj h
    exact ⟨rfl, Nat.le_add_right _ _⟩
  | cons a as ih =>
    obtain ⟨hne, hrest⟩ := List.ne_and_not_mem_of_not_mem_cons has
    obtain ⟨u, hu, hrun⟩ := runTrace_cons_next_cases h
    obtain ⟨hseq, hle⟩ := ih hrest hrun
    obtain ⟨-, huseq, hms | ⟨rfl, -, hms⟩⟩ := runEvent_other_next_cases hne.symm hu
    · rw [hms] at hle
      exact ⟨hseq.trans huseq, hle.trans (Nat.add_le_add_left List.count_le_count_cons _)⟩
    · have := ms_toNat_succ_le s.ms
      rw [hms] at hle
      rw [List.count_cons_self]
      exact ⟨hseq.trans huseq, by omega⟩

theorem pollFast_cons_of_next {since : Option Nat} {e : Event} {es : List Event} {s t : State} (h : runEvent e s = .next t) :
    pollFast since (e :: es) s =
      if isSeqStep e s then decide (since.getD 0 ≤ 1) && pollFast (if t.seq = s.seq then some 0 else none) es t
      else if isClkStep e s then pollFast (since.map (· + 1)) es t
      else pollFast since es t := by
  simp only [pollFast, h]

theorem staysAt_cons_of_next {q : SeqState} {e : Event} {es : List Event} {s t : State} (h : runEvent e s = .next t) :
    staysAt q (e :: es) s = (decide (s.seq = q) && staysAt q es t) := by
  simp only [staysAt, h]

/-- The row of a micro-state is no other agent's row. -/
theorem isSeqStep_other {a : AgentEvent} (ha : a ≠ .seq) (s : State) : isSeqStep (.agent a) s = false := by
  cases a with
  | seq => exact absurd rfl ha
  | ready r => rfl
  | enc | tick | rx | dec | clk => cases hq : s.seq <;> simp [isSeqStep, fetchEvent, fetchAgent, seqRow, hq]

/-- Between two polls: where `MS` is below a bound plus the CLK steps counted so far, it stays so. -/
theorem pollFast_other {a : AgentEvent} {bound n : Nat} {es : List Event} {s t : State} (ha : a ≠ .seq)
    (hms : s.ms.toNat < bound + n) (hfast : pollFast (some n) (.agent a :: es) s = true)
    (h : runEvent (.agent a) s = .next t) : ∃ m, t.ms.toNat < bound + m ∧ pollFast (some m) es t = true := by
  rw [pollFast_cons_of_next h, isSeqStep_other ha, if_neg Bool.false_ne_true] at hfast
  obtain ⟨-, -, hsame | ⟨rfl, hclk, hsucc⟩⟩ := runEvent_other_next_cases ha h
  · rw [← hsame] at hms
    split at hfast
    · exact ⟨n + 1, Nat.lt_succ_of_lt hms, hfast⟩
    · exact ⟨n, hms, hfast⟩
  · rw [if_pos hclk] at hfast
    have := ms_toNat_succ_le s.ms
    rw [← hsucc] at this
    exact ⟨n + 1, by omega, hfast⟩

/-- A poll of `S4_AWAIT` comes after one CLK step at most, and one that stays is the poll to count from (R223). -/
theorem pollFast_poll {n : Nat} {es : List Event} {s t : State} (hq : s.seq = .s4Await)
    (hfast : pollFast (some n) (.agent .seq :: es) s = true) (h : runEvent (.agent .seq) s = .next t) :
    n ≤ 1 ∧ (t.seq = .s4Await → pollFast (some 0) es t = true) := by
  have hpoll : isSeqStep (.agent .seq) s = true := by simp [isSeqStep, fetchEvent, fetchAgent, agentEnabled, hq]
  rw [pollFast_cons_of_next h, if_pos hpoll, Bool.and_eq_true, decide_eq_true_eq] at hfast
  obtain ⟨hn, hrest⟩ := hfast
  refine ⟨hn, fun hto => ?_⟩
  rwa [if_pos (hto.trans hq.symm)] at hrest

theorem seq_of_staysAt_snoc {q : SeqState} {as : List AgentEvent} {a : AgentEvent} {s : State}
    (h : staysAt q (agents (as ++ [a])) s = true) : s.seq = q := by
  obtain ⟨b, bs, hbs⟩ := List.exists_cons_of_ne_nil (List.append_ne_nil_of_right_ne_nil as (List.cons_ne_nil a []))
  rw [hbs, agents_cons, staysAt, Bool.and_eq_true] at h
  exact of_decide_eq_true h.1

/-- Polls of `S4_AWAIT` under `POLL_FAST`: a poll that stays saw `MS` below the threshold, so the next one finds it at the threshold
at most (R211, R223). -/
theorem ms_le_timeout_at_last_poll {ps : List AgentEvent} {n : Nat} {s u : State}
    (hms : s.ms.toNat < s.cfg.timeoutTicks + n) (hfast : pollFast (some n) (agents (ps ++ [.seq])) s = true)
    (hstay : staysAt .s4Await (agents (ps ++ [.seq])) s = true) (h : runTrace (agents (ps ++ [.seq])) s = .next u) :
    u.ms.toNat ≤ s.cfg.timeoutTicks := by
  have hq : s.seq = .s4Await := seq_of_staysAt_snoc hstay
  induction ps generalizing s n with
  | nil =>
    obtain ⟨t, ht, hend⟩ := runTrace_cons_next_cases h
    obtain rfl := Host.Outcome.next.inj hend
    obtain ⟨hn, -⟩ := pollFast_poll hq hfast ht
    have hkeep : t.ms = s.ms := by
      rcases execS4Await_next_cases hq ((runEvent_seq hq).symm.trans ht) with ⟨-, rfl⟩ | ⟨-, hkeep, -⟩
      · rfl
      · exact hkeep
    rw [hkeep]
    omega
  | cons a ps ih =>
    rw [List.cons_append, agents_cons] at hfast hstay h
    obtain ⟨t, ht, hrun⟩ := runTrace_cons_next_cases h
    rw [staysAt_cons_of_next ht, Bool.and_eq_true] at hstay
    obtain ⟨-, hstay⟩ := hstay
    have htq : t.seq = .s4Await := seq_of_staysAt_snoc hstay
    by_cases ha : a = .seq
    · subst ha
      obtain ⟨-, hnext⟩ := pollFast_poll hq hfast ht
      rcases execS4Await_next_cases hq ((runEvent_seq hq).symm.trans ht) with ⟨hbelow, rfl⟩ | ⟨-, -, hto⟩
      · exact ih (n := 0) (by simpa [State.timedOut] using hbelow) (hnext htq) hstay hrun htq
      · simp [htq] at hto
    · obtain ⟨m, htms, hfast⟩ := pollFast_other ha hms hfast ht
      obtain ⟨hcfg, -⟩ := runEvent_other_next_cases ha ht
      rw [← hcfg] at htms ⊢
      exact ih htms hfast hstay hrun htq

/-- From `S5A_STORE` to the record: what is recorded is `MS`, risen by the CLK steps in the gap at most (R213, R214). -/
theorem elapsed_le_of_store_and_record {bs cs : List AgentEvent} {u t : State} (hq : u.seq = .s5aStore)
    (hbs : AgentEvent.seq ∉ bs) (hcs : AgentEvent.seq ∉ cs)
    (h : runTrace (agents (bs ++ .seq :: cs ++ [.seq])) u = .next t) :
    t.elapsed.toNat ≤ u.ms.toNat + (bs ++ cs).count .clk := by
  rw [agents_append, agents_append] at h
  obtain ⟨y, hy, hrecord⟩ := runTrace_append_next_cases h
  obtain ⟨v, hv, hstore⟩ := runTrace_append_next_cases hy
  obtain ⟨hvq, hvms⟩ := ms_le_of_runTrace_others hbs hv
  rw [hq] at hvq
  obtain ⟨w, hw, hgap⟩ := runTrace_cons_next_cases hstore
  obtain ⟨hwq, hwms, -, -⟩ := execS5aStore_next_cases hvq ((runEvent_seq hvq).symm.trans hw)
  obtain ⟨hyq, hyms⟩ := ms_le_of_runTrace_others hcs hgap
  rw [hwq] at hyq
  rw [agents_cons, runTrace_cons_of_next ((runEvent_seq hyq).trans (execS5aRec_here hyq))] at hrecord
  obtain rfl := Host.Outcome.next.inj hrecord
  rw [List.count_append, State.goto_elapsed, State.record_elapsed]
  rw [hwms] at hyms
  omega

/-- Settles O55: the property at power-on and along every step, what it says of the status byte, and the bound on what is recorded:
`TIMEOUT_TICKS` at the poll that sees the byte, and the CLK steps after it. -/
theorem statusBitSevenTellsTheError : Obligations.StatusBitSevenTellsTheError := by
  refine ⟨fun _ _ => .inl (by simp), fun _ _ => elapsedTells_of_step, fun _ => status_bit_seven_iff, ?bound⟩
  intro k ps bs cs s u t _ hms _ hfast hstay hpolls hu hbs hcs hk h
  have hlast : u.ms.toNat ≤ s.cfg.timeoutTicks := ms_le_timeout_at_last_poll (n := 0) hms hfast hstay hpolls
  calc t.elapsed.toNat
      ≤ u.ms.toNat + (bs ++ cs).count .clk := elapsed_le_of_store_and_record hu hbs hcs h
    _ ≤ s.cfg.timeoutTicks + k := Nat.add_le_add hlast hk

end Sys2Proof.Machine

/-! PROOFS of the decoder family: the DEC step and the 32 code rows (R100 to R136), a walk with each line change delivered (R138),
a double-bit transition (R139), missed edges (R140, R292). -/

namespace Sys2Proof.Machine

/-! ## The DEC step -/

/-- DEC where it is enabled: the entry of the code formed now is counted, the request served (R100, R161). -/
theorem exec_dec_enabled {s : State} (hd : s.dpend = true) (hm : s.imask = false) :
    exec .dec s = .next ((s.count (tbl s.cfg s.code)).clearPending .edge) :=
  takeInterrupt_enabled (by simp [hd, hm]) fun s => s.count (tbl s.cfg s.code)

/-- Settles O9. -/
theorem decStepAppliesTheTableEntry : Obligations.DecStepAppliesTheTableEntry :=
  fun _ hd hm => exec_dec_enabled hd hm

/-- An interrupt asks of its handler only what it does in the state it is taken in. -/
theorem takeInterrupt_congr {q : Irq} {f g : State → State} {s : State} (h : f s = g s) :
    takeInterrupt q f s = takeInterrupt q g s := by
  simp only [takeInterrupt, when, h]

/-- In the build in use and at the code formed, a code's step asks only for the request and the mask (R8, R100). -/
theorem codeStep_own (act : Action) (s : State) :
    codeStep s.cfg.countMode s.code act s = takeInterrupt .edge (fun s => s.count (orient s.cfg.fwdSign act)) s :=
  when_of (by simp) s _

/-- Settles O10: both sides take the edge interrupt, and in `s` their handlers count the same entry of `TBL`. -/
theorem decSelectsTheCodesRow : Obligations.DecSelectsTheCodesRow := by
  intro s
  have hrow : exec (codeRow s.cfg.countMode s.code) s =
      takeInterrupt .edge (fun t => t.count (orient t.cfg.fwdSign (tableOf s.cfg.countMode s.code))) s := by
    rw [exec_codeRow, codeStep_own]
  exact (takeInterrupt_congr rfl).trans hrow.symm

/-- Settles O11: both lists are the tables evaluated at the sixteen codes. -/
theorem decodeTablesAreListed : Obligations.DecodeTablesAreListed := by
  constructor <;> decide

/-! ## What an action counts -/

@[simp] theorem orient_nop (sign : Sign) : orient sign .nop = .nop := by cases sign <;> rfl

@[simp] theorem orient_amb (sign : Sign) : orient sign .amb = .amb := by cases sign <;> rfl

@[simp] theorem addend_orient_inc (c : Config) : Action.addend (orient c.fwdSign .inc) = pStepAddend c := by
  unfold pStepAddend
  cases c.fwdSign <;> decide

@[simp] theorem addend_orient_dec1 (c : Config) : Action.addend (orient c.fwdSign .dec1) = nStepAddend c := by
  unfold nStepAddend
  cases c.fwdSign <;> decide

@[simp] theorem errAddend_inc : Action.errAddend .inc = 0#8 := rfl

@[simp] theorem errAddend_dec1 : Action.errAddend .dec1 = 0#8 := rfl

@[simp] theorem errAddend_nop : Action.errAddend .nop = 0#8 := rfl

@[simp] theorem errAddend_amb : Action.errAddend .amb = 1#8 := rfl

/-- `FWD_SIGN` exchanges the two counting actions and touches no error increment (R73, R74). -/
@[simp] theorem errAddend_orient (sign : Sign) (act : Action) :
    Action.errAddend (orient sign act) = Action.errAddend act := by
  cases sign <;> cases act <;> rfl

/-! ## The code rows -/

/-- The row `i` of a table: the code `{new, prev}` selects it, and the table gives that code the action `act`. -/
abbrev SelectsRow (mode : CountMode) (act : Action) (new prev : Sample) (i : Instr) : Prop :=
  codeRow mode (new ++ prev) = i ∧ tableOf mode (new ++ prev) = act

/-- A code row where its DEC step is enabled (R100, R161): `PREV` and the request as after every DEC step, and the counters as its
action says. -/
theorem exec_row_ready {mode : CountMode} {act : Action} {new prev : Sample} {i : Instr} {s : State}
    (hi : SelectsRow mode act new prev i) (h : RowReady s mode new prev) :
    exec i s = .next { s with
      pos := s.pos + Action.addend (orient s.cfg.fwdSign act)
      errcnt := s.errcnt + Action.errAddend act
      prev := new
      dpend := false } := by
  obtain ⟨rfl, rfl⟩ := hi
  obtain ⟨rfl, rfl, rfl, hd, hm⟩ := h
  rw [← errAddend_orient s.cfg.fwdSign, exec_codeRow]
  exact codeStep_selected rfl rfl hd hm

/-- A row whose action is `NOP` advances `PREV` and counts nothing (R103, R120). -/
theorem exec_nop_row_ready {mode : CountMode} {new prev : Sample} {i : Instr} {s : State}
    (hi : SelectsRow mode .nop new prev i) (h : RowReady s mode new prev) :
    exec i s = .next { s with prev := new, dpend := false } := by
  simpa using exec_row_ready hi h

/-- A row whose action is `INC` counts a P-step (R73, R103). -/
theorem exec_inc_row_ready {mode : CountMode} {new prev : Sample} {i : Instr} {s : State}
    (hi : SelectsRow mode .inc new prev i) (h : RowReady s mode new prev) :
    exec i s = .next { s with pos := s.pos + pStepAddend s.cfg, prev := new, dpend := false } := by
  simpa using exec_row_ready hi h

/-- A row whose action is `DEC1` counts an N-step (R73, R103). -/
theorem exec_dec1_row_ready {mode : CountMode} {new prev : Sample} {i : Instr} {s : State}
    (hi : SelectsRow mode .dec1 new prev i) (h : RowReady s mode new prev) :
    exec i s = .next { s with pos := s.pos + nStepAddend s.cfg, prev := new, dpend := false } := by
  simpa using exec_row_ready hi h

/-- A row whose action is `AMB` counts an error and no step (R103, R139). -/
theorem exec_amb_row_ready {mode : CountMode} {new prev : Sample} {i : Instr} {s : State}
    (hi : SelectsRow mode .amb new prev i) (h : RowReady s mode new prev) :
    exec i s = .next { s with errcnt := s.errcnt + 1#8, prev := new, dpend := false } := by
  simpa using exec_row_ready hi h

/-- Settles O1: each listed row is its code's, with the action `NOP`. -/
theorem quarterNoChangeCodesKeepCounters : Obligations.QuarterNoChangeCodesKeepCounters := by
  intro r hr
  have hi : SelectsRow .quarter .nop r.1 r.1 r.2 := by revert r; decide
  exact ⟨hi.1, fun _ => exec_nop_row_ready hi⟩

/-- Settles O2: each listed row is its code's, with the action `INC`. -/
theorem quarterPStepCodesCountUp : Obligations.QuarterPStepCodesCountUp := by
  intro r hr
  have hi : SelectsRow .quarter .inc r.1 r.2.1 r.2.2 := by revert r; decide
  exact ⟨hi.1, fun _ => exec_inc_row_ready hi⟩

/-- Settles O3: each listed row is its code's, with the action `DEC1`. -/
theorem quarterNStepCodesCountDown : Obligations.QuarterNStepCodesCountDown := by
  intro r hr
  have hi : SelectsRow .quarter .dec1 r.1 r.2.1 r.2.2 := by revert r; decide
  exact ⟨hi.1, fun _ => exec_dec1_row_ready hi⟩

/-- Settles O4: each listed row is its code's, with the action `AMB`. -/
theorem quarterAmbiguousCodesCountErrors : Obligations.QuarterAmbiguousCodesCountErrors := by
  intro r hr
  have hi : SelectsRow .quarter .amb r.1 r.2.1 r.2.2 := by revert r; decide
  exact ⟨hi.1, fun _ => exec_amb_row_ready hi⟩

/-- Settles O5: the coarse table's no-change rows, with the action `NOP`. -/
theorem coarseNoChangeCodesKeepCounters : Obligations.CoarseNoChangeCodesKeepCounters := by
  intro r hr
  have hi : SelectsRow .coarse .nop r.1 r.1 r.2 := by revert r; decide
  exact ⟨hi.1, fun _ => exec_nop_row_ready hi⟩

/-- Settles O6: `C1` and `C2` are the coarse table's only counting rows. -/
theorem coarseCycleCompletionsCount : Obligations.CoarseCycleCompletionsCount := by
  have hc1 : SelectsRow .coarse .inc 0b00#2 0b01#2 .c1 := ⟨rfl, rfl⟩
  have hc2 : SelectsRow .coarse .dec1 0b00#2 0b10#2 .c2 := ⟨rfl, rfl⟩
  exact ⟨⟨hc1.1, fun _ => exec_inc_row_ready hc1⟩, ⟨hc2.1, fun _ => exec_dec1_row_ready hc2⟩⟩

/-- Settles O7: the collapsed rows carry the action `NOP` as well. -/
theorem coarseCollapsedCodesOnlyAdvancePrev : Obligations.CoarseCollapsedCodesOnlyAdvancePrev := by
  intro r hr
  have hi : SelectsRow .coarse .nop r.1 r.2.1 r.2.2 := by revert r; decide
  exact ⟨hi.1, fun _ => exec_nop_row_ready hi⟩

/-- Settles O8: D12 keeps the action `AMB` in the coarse table. -/
theorem coarseAmbiguousCodesCountErrors : Obligations.CoarseAmbiguousCodesCountErrors := by
  intro r hr
  have hi : SelectsRow .coarse .amb r.1 r.2.1 r.2.2 := by revert r; decide
  exact ⟨hi.1, fun _ => exec_amb_row_ready hi⟩

/-! ## Line changes with their DEC steps -/

theorem moveLines_of_ne {s : State} {smp : Sample} (h : smp ≠ s.enc) :
    s.moveLines smp = { s with enc := smp, dpend := true } := by
  simp only [State.moveLines, if_neg h, State.request]

/-- The lines at rest at `smp` with no request left, after DEC steps that counted the actions `acts`. -/
def State.settled (s : State) (smp : Sample) (acts : List Action) : State :=
  { s with enc := smp, prev := smp, pos := s.pos + (acts.map Action.addend).sum,
           errcnt := s.errcnt + (acts.map Action.errAddend).sum, dpend := false }

theorem settled_settled (s : State) (x y : Sample) (as bs : List Action) :
    (s.settled x as).settled y bs = s.settled y (as ++ bs) := by
  simp only [State.settled, List.map_append, List.sum_append, add_assoc]

/-- Settling on one action is the DEC step behind one line change. -/
theorem settled_singleton (s : State) (smp : Sample) (act : Action) :
    s.settled smp [act] = (({ s with enc := smp, dpend := true } : State).count act).clearPending .edge := by
  simp [State.settled, State.count, State.clearPending]

/-- A line change followed by its DEC counts one entry of the table (R100, R160). -/
theorem runTrace_edge_append {s : State} {smp : Sample} (hm : s.imask = false) (hne : smp ≠ s.enc) (es : List Event) :
    runTrace (edge smp ++ es) s = runTrace es (s.settled smp [tbl s.cfg (smp ++ s.prev)]) := by
  have hmove : runEvent (.agent (.enc smp)) s = .next { s with enc := smp, dpend := true } :=
    congrArg Host.Outcome.next (moveLines_of_ne hne)
  have hdec : runEvent (.agent .dec) { s with enc := smp, dpend := true } =
      .next (s.settled smp [tbl s.cfg (smp ++ s.prev)]) := by
    rw [settled_singleton]
    exact exec_dec_enabled (s := { s with enc := smp, dpend := true }) rfl hm
  exact (runTrace_cons_of_next hmove).trans (runTrace_cons_of_next hdec)

/-- A change of both lines is ambiguous in either table (R72, R103; D12 for the coarse one). -/
theorem tbl_bothChanged (c : Config) (smp : Sample) : tbl c ((smp ^^^ 0b11#2) ++ smp) = .amb := by
  have htable (mode : CountMode) : tableOf mode ((smp ^^^ 0b11#2) ++ smp) = .amb := by
    cases mode <;> revert smp <;> decide
  rw [tbl, htable, orient_amb]

/-- Settles O13: the edge runs, and its entry is the ambiguous one. -/
theorem doubleBitTransitionCountsOneError : Obligations.DoubleBitTransitionCountsOneError := by
  intro s hm
  have hne : s.prev ^^^ 0b11#2 ≠ s.prev := by
    generalize s.prev = p
    revert p
    decide
  have hrun := runTrace_edge_append (s := { s with enc := s.prev }) hm hne []
  rw [tbl_bothChanged] at hrun
  simpa [State.settled, runTrace] using hrun

/-! ## The two directions of rotation -/

/-- What a quarter-table DEC step reads after `n` line changes in the direction whose single step is `act` (R140, R292). -/
def quarterAction (act : Action) (n : Nat) : Action :=
  if n % 4 = 1 then act else if n % 4 = 3 then orient .minus act else if n % 4 = 2 then .amb else .nop

/-- The actions of `n` DEC steps, one behind each line change in the direction `next` from `smp`. -/
def walkActions (table : Code → Action) (next : Sample → Sample) (n : Nat) (smp : Sample) : List Action :=
  match n with
  | 0 => []
  | n + 1 => table (next smp ++ smp) :: walkActions table next n (next smp)

/-- What makes `next` a direction of rotation whose single step is `act` (R73, R103, R120): a cycle of four samples, each a change
of the lines; one cycle of the coarse table holds one counting step. -/
structure Rotation (next : Sample → Sample) (act : Action) : Prop where
  counts : Action.errAddend act = 0#8
  moves : ∀ smp, next smp ≠ smp
  cycle : ∀ smp, next^[4] smp = smp
  quarter : ∀ k < 4, ∀ smp, quarterTable (next^[k] smp ++ smp) = quarterAction act k
  coarse : ∀ smp, (walkActions coarseTable next 4 smp).Perm [act, .nop, .nop, .nop]

theorem rotation_nextP : Rotation nextP .inc where
  counts := rfl
  moves := by decide
  cycle := by decide
  quarter := by decide
  coarse := by decide

theorem rotation_nextN : Rotation nextN .dec1 where
  counts := rfl
  moves := by decide
  cycle := by decide
  quarter := by decide
  coarse := by decide

/-! ## A walk with each line change delivered -/

/-- `n` line changes in the direction `next`, each followed by its DEC: `psteps` and `nsteps` are this for their directions. -/
def walk (next : Sample → Sample) (n : Nat) (smp : Sample) : List Event :=
  match n with
  | 0 => []
  | n + 1 => edge (next smp) ++ walk next n (next smp)

theorem psteps_eq_walk (n : Nat) (smp : Sample) : psteps n smp = walk nextP n smp := by
  induction n generalizing smp with
  | zero => rfl
  | succ n ih => rw [psteps, walk, ih]

theorem nsteps_eq_walk (n : Nat) (smp : Sample) : nsteps n smp = walk nextN n smp := by
  induction n generalizing smp with
  | zero => rfl
  | succ n ih => rw [nsteps, walk, ih]

/-- A walk counts its actions one by one: after each edge `PREV` and `ENC` agree again. -/
theorem runTrace_walk {next : Sample → Sample} (hmoves : ∀ smp, next smp ≠ smp) (n : Nat) {s : State} (hp : s.prev = s.enc)
    (hm : s.imask = false) :
    runTrace (walk next (n + 1) s.enc) s =
      .next (s.settled (next^[n + 1] s.enc) (walkActions (tbl s.cfg) next (n + 1) s.enc)) := by
  induction n generalizing s with
  | zero => rw [walk, runTrace_edge_append hm (hmoves _), hp]; rfl
  | succ n ih =>
    have hrest := ih (s := s.settled (next s.enc) [tbl s.cfg (next s.enc ++ s.enc)]) rfl hm
    rw [settled_settled] at hrest
    rw [walk, runTrace_edge_append hm (hmoves _), hp]
    exact hrest

/-- The actions of a walk under a build: those of its table, oriented by `FWD_SIGN`. -/
theorem walkActions_tbl (c : Config) (next : Sample → Sample) (n : Nat) (smp : Sample) :
    walkActions (tbl c) next n smp = (walkActions (tableOf c.countMode) next n smp).map (orient c.fwdSign) := by
  induction n generalizing smp with
  | zero => rfl
  | succ n ih => rw [walkActions, walkActions, ih]; rfl

/-- In the quarter table every step of a rotation counts (R138). -/
theorem Rotation.walkActions_quarter {next : Sample → Sample} {act : Action} (hr : Rotation next act) (n : Nat) (smp : Sample) :
    walkActions quarterTable next n smp = List.replicate n act := by
  induction n generalizing smp with
  | zero => rfl
  | succ n ih =>
    have hone : quarterTable (next smp ++ smp) = act := hr.quarter 1 (by decide) smp
    rw [walkActions, ih, hone, List.replicate_succ]

/-- One cycle in the quarter build (R138): four steps counted. -/
theorem Rotation.runTrace_cycle_quarter {next : Sample → Sample} {act : Action} (hr : Rotation next act) {s : State}
    (hp : s.prev = s.enc) (hm : s.imask = false) (hc : s.cfg.countMode = .quarter) :
    runTrace (walk next 4 s.enc) s =
      .next { s with pos := s.pos + 4#16 * Action.addend (orient s.cfg.fwdSign act), dpend := false } := by
  have hacts : walkActions (tbl s.cfg) next 4 s.enc = (List.replicate 4 act).map (orient s.cfg.fwdSign) := by
    rw [walkActions_tbl, hc]
    exact congrArg _ (hr.walkActions_quarter 4 s.enc)
  have hpos : (((List.replicate 4 act).map (orient s.cfg.fwdSign)).map Action.addend).sum =
      4#16 * Action.addend (orient s.cfg.fwdSign act) := by
    rw [List.map_replicate, List.map_replicate, List.sum_replicate]
    exact nsmul_eq_mul 4 _
  rw [runTrace_walk hr.moves 3 hp hm, hr.cycle, hacts, State.settled, hpos, ← hp]
  simp [hr.counts]

/-- One cycle in the coarse build (R138): whichever step completes it is the one counted. -/
theorem Rotation.runTrace_cycle_coarse {next : Sample → Sample} {act : Action} (hr : Rotation next act) {s : State}
    (hp : s.prev = s.enc) (hm : s.imask = false) (hc : s.cfg.countMode = .coarse) :
    runTrace (walk next 4 s.enc) s =
      .next { s with pos := s.pos + Action.addend (orient s.cfg.fwdSign act), dpend := false } := by
  have hacts : (walkActions (tbl s.cfg) next 4 s.enc).Perm ([act, .nop, .nop, .nop].map (orient s.cfg.fwdSign)) := by
    rw [walkActions_tbl, hc]
    exact (hr.coarse s.enc).map _
  rw [runTrace_walk hr.moves 3 hp hm, hr.cycle, State.settled, (hacts.map Action.addend).sum_eq,
    (hacts.map Action.errAddend).sum_eq, ← hp]
  simp [hr.counts]

/-- Settles O12: the cycle in each direction, in each build. -/
theorem cyclicWalkCountsOneCycle : Obligations.CyclicWalkCountsOneCycle := by
  intro s hp hm
  rw [psteps_eq_walk, nsteps_eq_walk, ← addend_orient_inc, ← addend_orient_dec1]
  exact ⟨fun hc => ⟨rotation_nextP.runTrace_cycle_quarter hp hm hc, rotation_nextN.runTrace_cycle_quarter hp hm hc⟩,
    fun hc => ⟨rotation_nextP.runTrace_cycle_coarse hp hm hc, rotation_nextN.runTrace_cycle_coarse hp hm hc⟩⟩

/-! ## Missed edges -/

/-- With a request pending a line change only moves the lines: the latch is one deep (R164, D13). -/
theorem moveLines_of_pending {s : State} (hd : s.dpend = true) (smp : Sample) : s.moveLines smp = { s with enc := smp } := by
  unfold State.moveLines State.request
  split <;> simp [← hd]

/-- Line changes with no DEC between them, a request pending: only the last sample is left of them (D13, D14). -/
theorem runTrace_lineChanges_append (next : Sample → Sample) (n : Nat) {s : State} (hd : s.dpend = true) (es : List Event) :
    runTrace (lineChanges next n s.enc ++ es) s = runTrace es { s with enc := next^[n] s.enc } := by
  induction n generalizing s with
  | zero => rfl
  | succ n ih =>
    have hmove : runEvent (.agent (.enc (next s.enc))) s = .next { s with enc := next s.enc } :=
      congrArg Host.Outcome.next (moveLines_of_pending hd _)
    exact (runTrace_cons_of_next hmove).trans (ih (s := { s with enc := next s.enc }) hd)

theorem quarterAction_mod (act : Action) (n : Nat) : quarterAction act (n % 4) = quarterAction act n := by
  simp only [quarterAction, Nat.mod_mod]

/-- The quarter table sees a rotation's line changes modulo the cycle of four (R140). -/
theorem Rotation.quarterTable_iterate {next : Sample → Sample} {act : Action} (hr : Rotation next act) (n : Nat)
    (smp : Sample) : quarterTable (next^[n] smp ++ smp) = quarterAction act n := by
  have hmod : next^[n % 4] smp = next^[n] smp := Function.IsPeriodicPt.iterate_mod_apply (hr.cycle smp) n
  rw [← hmod, hr.quarter _ (Nat.mod_lt n (by decide)), quarterAction_mod]

theorem addend_orient_quarterAction (sign : Sign) (act : Action) (n : Nat) :
    Action.addend (orient sign (quarterAction act n)) =
      if n % 4 = 1 then Action.addend (orient sign act)
      else if n % 4 = 3 then Action.addend (orient sign (orient .minus act)) else 0#16 := by
  unfold quarterAction
  split_ifs <;> simp

theorem errAddend_quarterAction {act : Action} (hact : Action.errAddend act = 0#8) (n : Nat) :
    Action.errAddend (quarterAction act n) = if n % 4 = 2 then 1#8 else 0#8 := by
  have hmod : n % 4 = 0 ∨ n % 4 = 1 ∨ n % 4 = 2 ∨ n % 4 = 3 := by omega
  rcases hmod with h | h | h | h <;> simp [quarterAction, h, hact]

/-- `n` line changes of a rotation behind one request, then the DEC (R140, R292): the two counters afterwards. -/
theorem Rotation.runTrace_missed {next : Sample → Sample} {act : Action} (hr : Rotation next act) (n : Nat) {s : State}
    (hp : s.prev = s.enc) (hm : s.imask = false) (hd : s.dpend = true) (hc : s.cfg.countMode = .quarter) :
    ∃ t, runTrace (lineChanges next n s.enc ++ [.agent .dec]) s = .next t ∧ t.prev = t.enc ∧ t.dpend = false ∧
      t.pos = s.pos + (if n % 4 = 1 then Action.addend (orient s.cfg.fwdSign act)
        else if n % 4 = 3 then Action.addend (orient s.cfg.fwdSign (orient .minus act)) else 0#16) ∧
      t.errcnt = s.errcnt + (if n % 4 = 2 then 1#8 else 0#8) := by
  have hentry : tbl s.cfg (next^[n] s.enc ++ s.prev) = orient s.cfg.fwdSign (quarterAction act n) := by
    rw [tbl, hc, hp]
    exact congrArg _ (hr.quarterTable_iterate n s.enc)
  have hdec : runEvent (.agent .dec) { s with enc := next^[n] s.enc } = _ :=
    exec_dec_enabled (s := { s with enc := next^[n] s.enc }) hd hm
  refine ⟨_, (runTrace_lineChanges_append next n hd _).trans (runTrace_cons_of_next hdec), rfl, rfl, ?pos, ?err⟩
  case pos =>
    rw [← addend_orient_quarterAction, ← hentry]
    rfl
  case err =>
    rw [← errAddend_quarterAction hr.counts, ← errAddend_orient s.cfg.fwdSign, ← hentry]
    rfl

/-- Settles O14: the two directions; the step back of one is the step of the other. -/
theorem decoderSeesMissedEdgesModuloFour : Obligations.DecoderSeesMissedEdgesModuloFour := by
  intro n s hp hm hd hc
  rw [← addend_orient_inc, ← addend_orient_dec1]
  exact ⟨rotation_nextP.runTrace_missed n hp hm hd hc, rotation_nextN.runTrace_missed n hp hm hd hc⟩

end Sys2Proof.Machine

/-! PROOFS of the clock family: the tick request (R150, R164), the CLK step (R151, R161), the sequencer's two services on `MS`
(R57, R152, R153). -/

namespace Sys2Proof.Machine

/-! ## The tick request -/

/-- Settles O16: a request sets its latch, whatever it held (R164). -/
theorem tickLatchesARequest : Obligations.TickLatchesARequest := by
  intro s
  calc exec .tick s
    _ = .next (s.request .tick) := rfl
    _ = .next { s with tpend := true } := rfl

/-! ## The CLK step -/

/-- An interrupt is held back for want of its request or by the mask (R161). -/
theorem irqEnabled_eq_false_iff {q : Irq} {s : State} : s.irqEnabled q = false ↔ s.pending q = false ∨ s.imask = true := by
  simp [State.irqEnabled, imp_iff_not_or]

/-- CLK where it is enabled: the tick is counted, the request served (R151, R161). -/
theorem exec_clk_enabled {s : State} (ht : s.tpend = true) (hm : s.imask = false) :
    exec .clk s = .next (s.countTick.clearPending .tick) :=
  takeInterrupt_enabled (by simp [ht, hm]) State.countTick

/-- CLK where it is not enabled (R161, log 7). -/
theorem exec_clk_held {s : State} (h : s.tpend = false ∨ s.imask = true) : exec .clk s = .next s :=
  takeInterrupt_held (irqEnabled_eq_false_iff (q := .tick).mpr h) State.countTick

/-- The byte's increment is R151's addition modulo 256. -/
theorem ms_succ_eq_ofNat (b : Byte) : b + 1#8 = BitVec.ofNat 8 ((b.toNat + 1) % 256) := by
  apply BitVec.eq_of_toNat_eq
  simp

/-- Settles O17: the two cases of CLK's enabling. -/
theorem clkCountsTheTick : Obligations.ClkCountsTheTick := by
  refine fun s => ⟨fun ht hm => ?_, exec_clk_held⟩
  rw [exec_clk_enabled ht hm, ← ms_succ_eq_ofNat]
  rfl

/-! ## The sequencer's services on `MS` -/

/-- Settles O20: the read answers the state itself (R57, R152), the clear writes `MS` alone (R153). -/
theorem msReadAndMsClear : Obligations.MsReadAndMsClear := by
  refine fun s => ⟨?read, ?value, ?clear⟩
  case read => rfl
  case value => rfl
  case clear =>
    calc exec .msClear s
      _ = .next s.clearMs := rfl
      _ = .next { s with ms := 0#8 } := rfl

end Sys2Proof.Machine

/-! PROOFS of the snapshot family: line changes and the handlers' requests (R160, R161), the two handlers in either order (R172), the
critical section (R165 to R167), and the invariant kept by every step (R165, R169, R188, R189, R213, R217, R218). -/

namespace Sys2Proof.Machine

/-! ## What the invariant asks, by its parts -/

/-- The motor's clauses of the invariant, which read neither `SEQ` nor a queue (R188, R189). -/
structure MotorOk (s : State) : Prop where
  gated : s.errst ≠ .noError → s.duty = 0#8
  dutyScaled : ∃ m : Seven, s.duty = scaledDuty s.cfg m

/-- What a timeout leaves until the next cycle (R217): an error, and the sentinel in `ELAPSED`. -/
def Marked (s : State) : Prop := s.errst ≠ .noError ∧ s.elapsed = s.cfg.elapsedTimeout

/-- What the invariant asks of the registers where `SEQ` holds `q`, as a table over the micro-states. -/
def SeqDemands (q : SeqState) (s : State) : Prop :=
  match q with
  | .s1Read | .s1Exit => s.imask = true ∧ s.txlog.length % 4 = 0
  | .s5aStore => s.imask = false ∧ s.txlog.length % 4 = 0 ∧ s.rxq ≠ []
  | .s5bDrain => s.imask = false ∧ s.txlog.length % 4 = 0 ∧ Marked s
  | .s5bRef | .s5bWait | .s5bClear => s.imask = false ∧ s.txlog.length % 4 = 0 ∧ Marked s ∧ s.cmd = 0#8
  | q => s.imask = false ∧ s.txlog.length % 4 = frameIndex q

/-- The table says what the invariant's clauses on `SEQ` say. -/
theorem seqDemands_iff {q : SeqState} {s : State} :
    SeqDemands q s ↔ (s.imask = true ↔ q = .s1Read ∨ q = .s1Exit) ∧ (q = .s5aStore → s.rxq ≠ []) ∧
      (inRecovery q = true → Marked s) ∧ (q = .s5bRef ∨ q = .s5bWait ∨ q = .s5bClear → s.cmd = 0#8) ∧
      s.txlog.length % 4 = frameIndex q := by
  cases q <;> simp [SeqDemands, inRecovery, frameIndex, and_assoc, and_comm, and_left_comm]

theorem Inv.motorOk {s : State} (hs : Inv s) : MotorOk s := ⟨hs.gated, hs.dutyScaled⟩

theorem Inv.seqDemands {s : State} (hs : Inv s) : SeqDemands s.seq s :=
  seqDemands_iff.mpr ⟨hs.maskIff, hs.stored, hs.marked, hs.drained, hs.framed⟩

/-- A step that keeps the parameters and the trace reaches the invariant where the queue is bounded and the two parts hold. -/
theorem Inv.of_parts {s t : State} (hs : Inv s) (hcfg : t.cfg = s.cfg) (htr : t.trace = s.trace)
    (hrx : t.rxq.length ≤ s.cfg.rxDepth) (hm : MotorOk t) (hd : SeqDemands t.seq t) : Inv t := by
  obtain ⟨hmask, hstored, hmarked, hdrained, hframed⟩ := seqDemands_iff.mp hd
  exact {
    cfgWf := hcfg ▸ hs.cfgWf
    agentsOnly := by rw [State.AgentsOnly, hcfg, htr]; exact hs.agentsOnly
    maskIff := hmask
    gated := hm.gated
    dutyScaled := hm.dutyScaled
    rxBound := hcfg ▸ hrx
    stored := hstored
    marked := hmarked
    drained := hdrained
    framed := hframed }

/-! ## The motor's part along the sequencer's step -/

theorem MotorOk.of_keep {s t : State} (hs : MotorOk s) (hcfg : t.cfg = s.cfg) (herr : t.errst = s.errst)
    (hduty : t.duty = s.duty) : MotorOk t :=
  ⟨by rw [herr, hduty]; exact hs.gated, by rw [hcfg, hduty]; exact hs.dutyScaled⟩

/-- Zero duty is gated, and is the scaled magnitude 0 (R187). -/
theorem motorOk_of_duty_zero {s : State} (h : s.duty = 0#8) : MotorOk s :=
  ⟨fun _ => h, 0#7, h.trans (scaledDuty_zero s.cfg).symm⟩

/-- APPLY writes a gated, scaled duty whatever stood before (R182). -/
theorem motorOk_applyCommand (s : State) : MotorOk s.applyCommand := by
  by_cases herr : s.errst = .noError
  · exact ⟨fun hne => absurd herr hne, magnitude s.cmd, gatedDuty_noError herr _⟩
  · exact motorOk_of_duty_zero (gatedDuty_error herr _)

/-- ACKCHK only takes the gating error away (R186). -/
theorem MotorOk.acknowledge {s : State} (hs : MotorOk s) : MotorOk s.acknowledge := by
  refine ⟨fun hne => ?_, by simpa using hs.dutyScaled⟩
  rw [State.acknowledge_errst] at hne
  rw [State.acknowledge_duty]
  split at hne
  · exact absurd rfl hne
  · exact hs.gated hne

/-- `APPLY`, `ACKCHK` and the mark's forced 0 are the sequencer's only writes of `DUTY` and `ERRST` (R200). -/
theorem motorOk_of_exec_seqRow {s t : State} (hs : MotorOk s) (h : exec (seqRow s.seq) s = .next t) : MotorOk t := by
  cases hq : s.seq <;> rw [hq, seqRow, exec] at h <;> have hbody := next_of_atState_here hq h
  case s1Enter | s1Exit | s5aRec | s5aClear | s5bRef | s5bClear =>
    obtain rfl := Host.Outcome.next.inj hbody
    exact hs.of_keep rfl rfl rfl
  case s1Read =>
    obtain ⟨-, hafter⟩ := snapshotPair_next_cases hbody
    obtain rfl := Host.Outcome.next.inj hafter
    exact hs.of_keep rfl rfl rfl
  case s1Apply =>
    obtain rfl := Host.Outcome.next.inj hbody
    exact (motorOk_applyCommand s).of_keep rfl rfl rfl
  case s2Ack =>
    obtain rfl := Host.Outcome.next.inj hbody
    exact hs.acknowledge.of_keep rfl rfl rfl
  case s3Tx0 | s3Tx1 | s3Tx2 | s3Tx3 =>
    rcases transmit_next_cases hbody with ⟨-, rfl⟩ | ⟨-, rfl⟩
    · exact hs
    · exact hs.of_keep rfl rfl rfl
  case s4Await => split at hbody <;> obtain rfl := Host.Outcome.next.inj hbody <;> exact hs.of_keep rfl rfl rfl
  case s5aStore =>
    obtain ⟨b, rest, -, huse⟩ := readByte_next_cases hbody
    obtain rfl := Host.Outcome.next.inj huse
    exact hs.of_keep rfl rfl rfl
  case s5aWait | s5bWait =>
    rcases when_next_cases hbody with ⟨-, rfl⟩ | ⟨-, hgo⟩
    · exact hs
    · obtain rfl := Host.Outcome.next.inj hgo
      exact hs.of_keep rfl rfl rfl
  case s5bMark =>
    obtain rfl := Host.Outcome.next.inj hbody
    exact motorOk_of_duty_zero rfl
  case s5bDrain =>
    rcases when_next_cases hbody with ⟨-, rfl⟩ | ⟨-, hread⟩
    · exact hs
    · obtain ⟨b, rest, -, huse⟩ := readByte_next_cases hread
      obtain rfl := Host.Outcome.next.inj huse
      exact hs.of_keep rfl rfl rfl

/-! ## The table along the sequencer's step -/

theorem rxq_ne_nil_of_byteAvailable {s : State} (h : s.byteAvailable = true) : s.rxq ≠ [] := by
  simpa [State.byteAvailable] using h

/-- A timeout's mark leaves an error and the sentinel (R217). -/
theorem marked_raiseTimeout_record (s : State) : Marked (s.raiseTimeout.record s.cfg.elapsedTimeout) := by
  have herr : s.raiseTimeout.errst ≠ .noError := by
    rw [State.raiseTimeout_errst]
    split <;> simp_all
  exact ⟨herr, by simp⟩

/-- One byte sent moves `TXLOG` to the next place in the frame (R40). -/
theorem sent_length_mod {s : State} {n : Nat} (h : s.txlog.length % 4 = n) (b : Byte) :
    (s.sent b).txlog.length % 4 = (n + 1) % 4 := by
  rw [State.sent_txlog, List.length_append, List.length_singleton]
  omega

/-- A transmit state's step waits, or sends one byte and goes to the micro-state that counts it (R207 to R210). -/
theorem seqDemands_of_transmit {b : Byte} {n : Nat} {q : SeqState} {s t : State} (hs : SeqDemands s.seq s)
    (hmask : s.imask = false) (hlen : s.txlog.length % 4 = n)
    (hq : ∀ u : State, SeqDemands q u ↔ u.imask = false ∧ u.txlog.length % 4 = (n + 1) % 4)
    (h : transmit b q s = .next t) : SeqDemands t.seq t := by
  rcases transmit_next_cases h with ⟨-, rfl⟩ | ⟨-, rfl⟩
  · exact hs
  · exact (hq _).mpr ⟨hmask, sent_length_mod hlen b⟩

/-- A poll of `S4_AWAIT` goes to `S5A_STORE` only where it saw a byte (R211, R212). -/
theorem seqDemands_of_execS4Await {s t : State} (hq : s.seq = .s4Await) (hs : SeqDemands .s4Await s)
    (h : execS4Await s = .next t) : SeqDemands t.seq t := by
  obtain ⟨hmask, hlen⟩ := hs
  have hbody := next_of_atState_here hq h
  split at hbody <;> obtain rfl := Host.Outcome.next.inj hbody
  · next hb _ => exact ⟨hmask, hlen, rxq_ne_nil_of_byteAvailable hb⟩
  · exact ⟨hmask, hlen⟩
  · next hb _ =>
    show SeqDemands s.tieBranch s.drawn
    rcases tieBranch_cases s with htie | htie <;> rw [htie]
    · exact ⟨hmask, hlen, rxq_ne_nil_of_byteAvailable hb⟩
    · exact ⟨hmask, hlen⟩
  · rw [hq]
    exact ⟨hmask, hlen⟩

/-- The sequencer's step from a state that meets the table reaches one that does, micro-state by micro-state (R200). -/
theorem seqDemands_of_exec_seqRow {s t : State} (hs : SeqDemands s.seq s) (h : exec (seqRow s.seq) s = .next t) :
    SeqDemands t.seq t := by
  have hall := hs
  cases hq : s.seq <;> rw [hq, seqRow, exec] at h <;> rw [hq] at hs <;> have hbody := next_of_atState_here hq h
  case s1Enter =>
    obtain ⟨-, hlen⟩ := hs
    obtain rfl := Host.Outcome.next.inj hbody
    exact ⟨rfl, hlen⟩
  case s1Read =>
    obtain ⟨-, hafter⟩ := snapshotPair_next_cases hbody
    obtain rfl := Host.Outcome.next.inj hafter
    exact hs
  case s1Exit =>
    obtain ⟨-, hlen⟩ := hs
    obtain rfl := Host.Outcome.next.inj hbody
    exact ⟨rfl, hlen⟩
  case s1Apply | s5aRec | s5aClear | s5bRef =>
    obtain rfl := Host.Outcome.next.inj hbody
    exact hs
  case s2Ack =>
    obtain ⟨hmask, hlen⟩ := hs
    obtain rfl := Host.Outcome.next.inj hbody
    exact ⟨by simpa using hmask, by simpa [frameIndex] using hlen⟩
  case s3Tx0 | s3Tx1 | s3Tx2 | s3Tx3 =>
    obtain ⟨hmask, hlen⟩ := hs
    exact seqDemands_of_transmit hall hmask hlen (fun _ => Iff.rfl) hbody
  case s4Await => exact seqDemands_of_execS4Await hq hs h
  case s5aStore =>
    obtain ⟨hmask, hlen, -⟩ := hs
    obtain ⟨b, rest, -, huse⟩ := readByte_next_cases hbody
    obtain rfl := Host.Outcome.next.inj huse
    exact ⟨hmask, hlen⟩
  case s5aWait | s5bWait =>
    rcases when_next_cases hbody with ⟨-, rfl⟩ | ⟨-, hgo⟩
    · exact hall
    · obtain rfl := Host.Outcome.next.inj hgo
      exact hs
  case s5bMark =>
    obtain ⟨hmask, hlen⟩ := hs
    obtain rfl := Host.Outcome.next.inj hbody
    exact ⟨by simpa using hmask, by simpa [frameIndex] using hlen, marked_raiseTimeout_record s⟩
  case s5bDrain =>
    obtain ⟨hmask, hlen, hmarked⟩ := hs
    rcases when_next_cases hbody with ⟨-, rfl⟩ | ⟨-, hread⟩
    · exact hall
    · obtain ⟨b, rest, -, huse⟩ := readByte_next_cases hread
      obtain rfl := Host.Outcome.next.inj huse
      exact ⟨hmask, hlen, hmarked, rfl⟩
  case s5bClear =>
    obtain ⟨hmask, hlen, -⟩ := hs
    obtain rfl := Host.Outcome.next.inj hbody
    exact ⟨hmask, hlen⟩

/-! ## The invariant along one agent's step -/

/-- The sequencer never adds to `RXQ` (R39, R43). -/
theorem SeqFrame.rxq_length_le {s t : State} (hf : SeqFrame s t) : t.rxq.length ≤ s.rxq.length := by
  rcases hf.rxq with heq | ⟨b, heq⟩ <;> simp [heq]

theorem inv_of_exec_seqRow {s t : State} (hs : Inv s) (h : exec (seqRow s.seq) s = .next t) : Inv t :=
  have hf : SeqFrame s t := seqFrame_of_exec_seqRow h
  hs.of_parts hf.cfg hf.trace (hf.rxq_length_le.trans hs.rxBound) (motorOk_of_exec_seqRow hs.motorOk h)
    (seqDemands_of_exec_seqRow hs.seqDemands h)

/-- No agent but the sequencer takes from `RXQ`, and a byte is added only where there is room (R39). -/
theorem rxq_of_runEvent_other {a : AgentEvent} {s t : State} (ha : a ≠ .seq) (h : runEvent (.agent a) s = .next t) :
    t.rxq = s.rxq ∨ ∃ b, t.rxq = s.rxq ++ [b] ∧ s.rxq.length < s.cfg.rxDepth := by
  obtain ⟨-, -, -, -, -, -, -, -, -, hrxq⟩ := registersAreWrittenByTheirOwners a s t h
  by_cases hkeep : t.rxq = s.rxq
  · exact .inl hkeep
  · rcases hrxq hkeep with ⟨b, rfl, hadd⟩ | ⟨hseq, -⟩
    · exact .inr ⟨b, hadd, (receive_next_cases h).1⟩
    · exact absurd hseq ha

/-- The other agents own none of the registers that the invariant reads but `RXQ` (R20, R31). -/
theorem inv_of_runEvent_other {a : AgentEvent} {s t : State} (ha : a ≠ .seq) (hs : Inv s)
    (h : runEvent (.agent a) s = .next t) : Inv t := by
  obtain ⟨hcfg, htr, -, -, hkeep, -⟩ := registersAreWrittenByTheirOwners a s t h
  obtain ⟨hcmd, herr, helapsed, -, -, hduty, -, hmask, hseq, -, htx, -⟩ := hkeep ha
  have hrx := rxq_of_runEvent_other ha h
  have hbound : t.rxq.length ≤ s.cfg.rxDepth := by
    rcases hrx with heq | ⟨b, heq, hroom⟩ <;> rw [heq]
    · exact hs.rxBound
    · simpa using hroom
  have hsome : s.rxq ≠ [] → t.rxq ≠ [] := by rcases hrx with heq | ⟨b, heq, -⟩ <;> simp [heq]
  refine hs.of_parts hcfg htr hbound (hs.motorOk.of_keep hcfg herr hduty) (seqDemands_iff.mpr ?_)
  rw [Marked, hseq, hmask, herr, helapsed, hcfg, hcmd, htx]
  exact ⟨hs.maskIff, fun hq => hsome (hs.stored hq), hs.marked, hs.drained, hs.framed⟩

theorem inv_of_runEvent_agent {a : AgentEvent} {s t : State} (hs : Inv s) (h : runEvent (.agent a) s = .next t) :
    Inv t := by
  by_cases ha : a = .seq
  · subst ha
    exact inv_of_exec_seqRow hs h
  · exact inv_of_runEvent_other ha hs h

theorem inv_of_runTrace_agents {as : List AgentEvent} {s t : State} (hs : Inv s)
    (h : runTrace (agents as) s = .next t) : Inv t := by
  induction as generalizing s with
  | nil =>
    obtain rfl := Host.Outcome.next.inj h
    exact hs
  | cons a as ih =>
    obtain ⟨u, hu, hrun⟩ := runTrace_cons_next_cases h
    exact ih (inv_of_runEvent_agent hs hu) hrun

/-! ## Every row of an agent is steps of agents -/

/-- `t` is reached from `s` by steps of agents alone. -/
def ReachedByAgents (s t : State) : Prop := ∃ as : List AgentEvent, runTrace (agents as) s = .next t

theorem ReachedByAgents.refl (s : State) : ReachedByAgents s s := ⟨[], rfl⟩

theorem reachedByAgents_of_runEvent {a : AgentEvent} {s t : State} (h : runEvent (.agent a) s = .next t) :
    ReachedByAgents s t := ⟨[a], runTrace_cons_of_next h⟩

/-- A code row that moves is the DEC step (R100, log 7). -/
theorem reachedByAgents_of_codeRow {mode : CountMode} {i : Instr} {s t : State} (hi : ∃ code, i = codeRow mode code)
    (h : exec i s = .next t) : ReachedByAgents s t := by
  obtain ⟨code, rfl⟩ := hi
  by_cases hsel : s.cfg.countMode = mode ∧ s.code = code
  · obtain ⟨rfl, rfl⟩ := hsel
    exact reachedByAgents_of_runEvent (a := .dec) ((decSelectsTheCodesRow s).trans h)
  · rw [exec_codeRow] at h
    obtain rfl := eq_of_next_eq_next (codeStep_unselected _ (by tauto)) h
    exact .refl t

/-- A micro-state's row that moves is the sequencer's step (R33). -/
theorem reachedByAgents_of_microState {i : Instr} {s t : State} (hi : i ∈ microStates.map seqRow)
    (h : exec i s = .next t) : ReachedByAgents s t := by
  obtain ⟨q, -, rfl⟩ := List.mem_map.mp hi
  by_cases hq : s.seq = q
  · exact reachedByAgents_of_runEvent ((runEvent_seq hq).trans h)
  · obtain rfl := eq_of_next_eq_next (exec_seqRow_elsewhere hq) h
    exact .refl t

/-- A status row that moves is the send of `S3_TX3` (R210, log 16). -/
theorem reachedByAgents_of_sendStatus {form : Bool} {s t : State} (h : sendStatus form s = .next t) :
    ReachedByAgents s t := by
  rcases atState_next_cases h with ⟨-, rfl⟩ | ⟨hq, hform⟩
  · exact .refl t
  · rcases when_next_cases hform with ⟨-, rfl⟩ | ⟨-, hsend⟩
    · exact .refl t
    · exact reachedByAgents_of_runEvent ((runEvent_seq hq).trans ((atState_here hq _).trans hsend))

/-- A frame's row that moves is the four sends, one after another (R82, R88). -/
theorem reachedByAgents_of_execFrame {lo hi err st : Byte} {s t : State} (h : execFrame lo hi err st s = .next t) :
    ReachedByAgents s t := by
  by_cases hsel : s.seq = .s3Tx0 ∧ s.txReady = true ∧ s.frameBytes = [lo, hi, err, st]
  · obtain ⟨hq, hr, hb⟩ := hsel
    have hsteps := runTrace_seq_frame hr hb
    rw [goto_self hq] at hsteps
    exact ⟨_, hsteps.trans ((execFrame_selected hq hr hb).symm.trans h)⟩
  · obtain rfl := eq_of_next_eq_next (execFrame_unselected (by simpa [imp_iff_not_or] using hsel)) h
    exact .refl t

/-- A row of an agent does what a run of agents' steps does (R34, R87). -/
theorem reachedByAgents_of_exec {i : Instr} {s t : State} (ha : isAgentRow i = true) (h : exec i s = .next t) :
    ReachedByAgents s t := by
  cases i with
  | q0 | q1 | q2 | q3 | q4 | q5 | q6 | q7 | q8 | q9 | q10 | q11 | q12 | q13 | q14 | q15 =>
    exact reachedByAgents_of_codeRow (mode := .quarter) (by decide) h
  | c0 | c1 | c2 | c3 | c4 | c5 | c6 | c7 | c8 | c9 | c10 | c11 | c12 | c13 | c14 | c15 =>
    exact reachedByAgents_of_codeRow (mode := .coarse) (by decide) h
  | s1Enter | s1Read | s1Exit | s1Apply | s2Ack | s3Tx0 | s3Tx1 | s3Tx2 | s3Tx3 | s4Await
  | s5aStore | s5aRec | s5aWait | s5aClear | s5bMark | s5bDrain | s5bRef | s5bWait | s5bClear =>
    exact reachedByAgents_of_microState (by decide) h
  | statusElapsed | statusPoweredOn | statusCommandTimeout => exact reachedByAgents_of_sendStatus h
  | frame => exact reachedByAgents_of_execFrame h
  | dec => exact reachedByAgents_of_runEvent (a := .dec) h
  | clk => exact reachedByAgents_of_runEvent (a := .clk) h
  | tick => exact reachedByAgents_of_runEvent (a := .tick) h
  | enc smp => exact reachedByAgents_of_runEvent (a := .enc smp) h
  | rx b => exact reachedByAgents_of_runEvent (a := .rx b) h
  | ack | fwd | rev | csEnter | snapRead | csExit | apply | ackchk | forceZero | msRead | msClear => exact nomatch ha

/-- So does every event of an agents' trace that goes on. -/
theorem reachedByAgents_of_event {e : Event} {s t : State} (ha : isAgentEvent s.cfg e = true)
    (h : runEvent e s = .next t) : ReachedByAgents s t := by
  rcases runEvent_next_cases h with ⟨i, hf, hx⟩ | ⟨r, -, rfl⟩ | ⟨-, rfl⟩
  · exact reachedByAgents_of_exec (fetchEvent_run_isAgentRow ha hf) hx
  · exact reachedByAgents_of_runEvent (a := .ready r) rfl
  · exact .refl t

theorem inv_of_runEvent {e : Event} {s t : State} (ha : isAgentEvent s.cfg e = true) (hs : Inv s)
    (h : runEvent e s = .next t) : Inv t := by
  obtain ⟨as, hrun⟩ := reachedByAgents_of_event ha h
  exact inv_of_runTrace_agents hs hrun

/-! ## The invariant along one step of the machine -/

/-- Past the trace's head the rest is agents' steps as well. -/
theorem Inv.take_event {s : State} {e : Event} {rest : List Event} (hs : Inv s) (htr : s.trace = e :: rest) :
    Inv { s with trace := rest } :=
  { hs with agentsOnly := fun f hf => hs.agentsOnly f (htr ▸ List.mem_cons_of_mem e hf) }

/-- The invariant reads no free value. -/
theorem Inv.drawn {s : State} (hs : Inv s) : Inv s.drawn := { hs with }

/-- Settles O52: the event is taken, and what it does is a run of agents' steps, each of which keeps the invariant. -/
theorem everyStepKeepsTheInvariant : Obligations.EveryStepKeepsTheInvariant := by
  intro s t hs h
  cases htr : s.trace with
  | nil =>
    rw [step_of_trace_nil htr] at h
    exact inv_of_runEvent_agent hs.drawn h
  | cons e rest =>
    rw [step_of_trace_cons htr] at h
    exact inv_of_runEvent (s := { s with trace := rest }) (hs.agentsOnly e (by simp [htr])) (hs.take_event htr) h

/-! ## Requests and their handlers -/

theorem moveLines_self (s : State) : s.moveLines s.enc = s := by
  simp only [State.moveLines, if_pos]

/-- Settles O15: the lines change, or they do not. -/
theorem lineChangeRequestsTheDecoder : Obligations.LineChangeRequestsTheDecoder := by
  refine fun smp s => ⟨fun hne => ?changed, fun heq => ?same⟩
  case changed => exact congrArg Host.Outcome.next (moveLines_of_ne hne)
  case same =>
    subst heq
    exact congrArg Host.Outcome.next (moveLines_self s)

/-- DEC where it is not enabled (R161, log 7). -/
theorem exec_dec_held {s : State} (h : s.dpend = false ∨ s.imask = true) : exec .dec s = .next s :=
  takeInterrupt_held (irqEnabled_eq_false_iff (q := .edge).mpr h) fun s => s.count (tbl s.cfg s.code)

/-- Settles O18: the same test holds either handler back. -/
theorem handlersWaitWhileMaskedOrIdle : Obligations.HandlersWaitWhileMaskedOrIdle :=
  fun _ => ⟨exec_dec_held, exec_clk_held⟩

/-- The state after an interrupt's chance to run: the handler's, returned from, where it is enabled. -/
def State.afterIrq (s : State) (q : Irq) (handler : State → State) : State :=
  if s.irqEnabled q then (handler s).clearPending q else s

theorem afterIrq_enabled {q : Irq} {s : State} (h : s.irqEnabled q = true) (handler : State → State) :
    s.afterIrq q handler = (handler s).clearPending q := if_pos h

theorem afterIrq_held {q : Irq} {s : State} (h : s.irqEnabled q = false) (handler : State → State) :
    s.afterIrq q handler = s := if_neg (Bool.eq_false_iff.mp h)

theorem takeInterrupt_eq_afterIrq (q : Irq) (handler : State → State) (s : State) :
    takeInterrupt q handler s = .next (s.afterIrq q handler) := by
  cases h : s.irqEnabled q with
  | false => rw [takeInterrupt_held h, afterIrq_held h]
  | true => rw [takeInterrupt_enabled h, afterIrq_enabled h]

/-- The state after DEC's chance to run. -/
def State.afterDec (s : State) : State := s.afterIrq .edge fun s => s.count (tbl s.cfg s.code)

/-- The state after CLK's chance to run. -/
def State.afterClk (s : State) : State := s.afterIrq .tick State.countTick

theorem runEvent_dec (s : State) : runEvent (.agent .dec) s = .next s.afterDec :=
  takeInterrupt_eq_afterIrq .edge (fun s => s.count (tbl s.cfg s.code)) s

theorem runEvent_clk (s : State) : runEvent (.agent .clk) s = .next s.afterClk :=
  takeInterrupt_eq_afterIrq .tick State.countTick s

/-- DEC leaves the tick's request and the mask (R31, R248). -/
theorem irqEnabled_tick_afterDec (s : State) : s.afterDec.irqEnabled .tick = s.irqEnabled .tick := by
  rw [State.afterDec, State.afterIrq]
  split <;> rfl

/-- CLK leaves the edge's request and the mask (R31, R248). -/
theorem irqEnabled_edge_afterClk (s : State) : s.afterClk.irqEnabled .edge = s.irqEnabled .edge := by
  rw [State.afterClk, State.afterIrq]
  split <;> rfl

/-- A handler held back is held back in either place; where both run, they write registers apart and read none of the other's
(R31, R172). -/
theorem afterDec_afterClk_comm (s : State) : s.afterDec.afterClk = s.afterClk.afterDec := by
  have hedge := irqEnabled_edge_afterClk s
  have htick := irqEnabled_tick_afterDec s
  cases hd : s.irqEnabled .edge with
  | false =>
    rw [hd] at hedge
    rw [State.afterDec, afterIrq_held hd, State.afterDec, afterIrq_held hedge]
  | true =>
    cases hc : s.irqEnabled .tick with
    | false =>
      rw [hc] at htick
      rw [State.afterClk, afterIrq_held htick, State.afterClk, afterIrq_held hc]
    | true =>
      rw [hd] at hedge
      rw [hc] at htick
      rw [State.afterClk, afterIrq_enabled htick, State.afterDec, afterIrq_enabled hd, State.afterDec,
        afterIrq_enabled hedge, State.afterClk, afterIrq_enabled hc]
      rfl

/-- Settles O19: each order reaches the two handlers' composition, and these commute. -/
theorem handlerOrderDoesNotMatter : Obligations.HandlerOrderDoesNotMatter := by
  intro s
  calc runTrace (agents [.dec, .clk]) s
    _ = runTrace (agents [.clk]) s.afterDec := runTrace_cons_of_next (runEvent_dec s)
    _ = .next s.afterDec.afterClk := runTrace_cons_of_next (runEvent_clk _)
    _ = .next s.afterClk.afterDec := by rw [afterDec_afterClk_comm]
    _ = runTrace (agents [.dec]) s.afterClk := (runTrace_cons_of_next (es := []) (runEvent_dec s.afterClk)).symm
    _ = runTrace (agents [.clk, .dec]) s := (runTrace_cons_of_next (runEvent_clk s)).symm

/-! ## The critical section's operations -/

/-- Settles O21: the two writes of `IMASK`, and the read whose precondition the mask is (R166). -/
theorem criticalSectionAndSnapshotRead : Obligations.CriticalSectionAndSnapshotRead := by
  refine fun s => ⟨?enter, fun hm => snapshotPair_masked hm _, ?exit⟩
  case enter =>
    calc exec .csEnter s
      _ = .next s.maskOn := rfl
      _ = .next { s with imask := true } := rfl
  case exit =>
    calc exec .csExit s
      _ = .next s.maskOff := rfl
      _ = .next { s with imask := false } := rfl

end Sys2Proof.Machine

/-! PROOFS of the motor family: the driver's operations and the three classes of command byte (R181 to R187), the cycle that acts on
the stored command (R180), and the outputs held between their writes (R190). -/

namespace Sys2Proof.Machine

/-! ## The writes of APPLY and ACKCHK -/

/-- APPLY on a byte without the flag: forward (R77, R181). -/
theorem applyCommand_of_field {m : Seven} {s : State} (h : s.cmd = m.setWidth 8) :
    s.applyCommand = s.drive .forward (gatedDuty s m) := by
  rw [State.applyCommand, h, reverseFlag, bit_seven_of_field, magnitude, setWidth_seven_of_field]
  rfl

/-- APPLY on a byte with the flag: reverse (R77, R181). -/
theorem applyCommand_of_errorStatus {m : Seven} {s : State} (h : s.cmd = errorStatus m) :
    s.applyCommand = s.drive .reverse (gatedDuty s m) := by
  rw [State.applyCommand, h, reverseFlag, bit_seven_of_errorStatus, magnitude, setWidth_seven_of_errorStatus]
  rfl

/-- The magnitude 0 is zero duty in every error state (R182, R185). -/
theorem gatedDuty_zero (s : State) : gatedDuty s 0#7 = 0#8 := by
  by_cases herr : s.errst = .noError
  · rw [gatedDuty_noError herr, scaledDuty_zero]
  · exact gatedDuty_error herr _

theorem acknowledge_of_sentinel {s : State} (h : s.cmd = Config.sentinel) :
    s.acknowledge = { s with errst := .noError } := if_pos h

theorem acknowledge_of_ne_sentinel {s : State} (h : s.cmd ≠ Config.sentinel) : s.acknowledge = s := if_neg h

/-- ACKCHK reads `CMD` and not `SEQ` (R186). -/
theorem acknowledge_goto (s : State) (q : SeqState) : (s.goto q).acknowledge = s.acknowledge.goto q :=
  (apply_ite (State.goto · q) (s.cmd = Config.sentinel) { s with errst := .noError } s).symm

/-! ## The three operations -/

/-- A row that drives the motor with a gated duty writes the scaled magnitude, or 0 while an error is active (R182). -/
theorem next_of_drive_gatedDuty {o : Out} {d : Direction} {m : Seven} {s : State}
    (h : o = .next (s.drive d (gatedDuty s m))) :
    (s.errst = .noError → o = .next { s with dir := d, duty := BitVec.ofNat 8 (s.cfg.dutyScale * m.toNat) }) ∧
    (s.errst ≠ .noError → o = .next { s with dir := d, duty := 0#8 }) :=
  ⟨fun herr => by rw [h, gatedDuty_noError herr, State.drive, scaledDuty],
    fun herr => by rw [h, gatedDuty_error herr, State.drive]⟩

/-- Settles O24: APPLY drives the motor by `CMD[7]` and the gated duty of `CMD[6:0]`. -/
theorem applyWritesDirectionAndGatedDuty : Obligations.ApplyWritesDirectionAndGatedDuty := by
  intro s
  have happly : exec .apply s = .next (s.drive (directionOf (reverseFlag s.cmd)) (gatedDuty s (magnitude s.cmd))) := rfl
  exact next_of_drive_gatedDuty happly

/-- Settles O26: the two cases of ACKCHK's test; FORCE_ZERO has none. -/
theorem ackchkAndForceZero : Obligations.AckchkAndForceZero :=
  fun _ => ⟨fun h => congrArg Host.Outcome.next (acknowledge_of_sentinel h),
    fun h => congrArg Host.Outcome.next (acknowledge_of_ne_sentinel h), rfl⟩

/-! ## The classes of command byte -/

theorem exec_fwd_selected {m : Seven} {s : State} (h : s.cmd = m.setWidth 8) :
    exec (.fwd m) s = .next (s.drive .forward (gatedDuty s m)) := by
  rw [exec, execFwd, when_of (decide_eq_true h)]

theorem exec_rev_selected {m : Seven} {s : State} (h : s.cmd = errorStatus m) :
    exec (.rev m) s = .next (s.drive .reverse (gatedDuty s m)) := by
  rw [exec, execRev, ← errorStatus, when_of (decide_eq_true h)]

theorem exec_ack_selected {s : State} (h : s.cmd = Config.sentinel) :
    exec .ack s = .next { s.drive .reverse 0#8 with errst := .noError } := by
  rw [exec, execAck, when_of (decide_eq_true h)]

/-- Settles O25: each class drives the motor by its byte's magnitude, which the error state gates. -/
theorem commandClassesDriveTheMotor : Obligations.CommandClassesDriveTheMotor :=
  ⟨fun _ _ hcmd => next_of_drive_gatedDuty (exec_fwd_selected hcmd),
    fun _ _ _ hcmd => next_of_drive_gatedDuty (exec_rev_selected hcmd), fun _ hcmd => exec_ack_selected hcmd⟩

/-- The class of the stored command is APPLY and then ACKCHK (R180, R183 to R186). -/
theorem exec_decodeCommand_cmd (s : State) : exec (decodeCommand s.cmd) s = .next s.applyCommand.acknowledge := by
  rcases command_byte_cases s.cmd with hcmd | ⟨m, hcmd⟩ | ⟨m, hm, hcmd⟩
  · have hack : s.applyCommand.acknowledge = { s.drive .reverse 0#8 with errst := .noError } := by
      rw [acknowledge_of_sentinel (s := s.applyCommand) hcmd,
        applyCommand_of_errorStatus (hcmd.trans sentinel_eq_errorStatus), gatedDuty_zero]
    rw [hack, hcmd, decodeCommand_sentinel]
    exact exec_ack_selected hcmd
  · have hne : s.cmd ≠ Config.sentinel := by
      intro hsent
      have hbit := bit_seven_of_field m
      rw [← hcmd, hsent] at hbit
      exact nomatch hbit
    rw [acknowledge_of_ne_sentinel (s := s.applyCommand) hne, applyCommand_of_field hcmd, hcmd, decodeCommand_field]
    exact exec_fwd_selected hcmd
  · have hne : s.cmd ≠ Config.sentinel := by rwa [hcmd, sentinel_eq_errorStatus, ne_eq, errorStatus_inj]
    rw [acknowledge_of_ne_sentinel (s := s.applyCommand) hne, applyCommand_of_errorStatus hcmd, hcmd,
      decodeCommand_errorStatus hm]
    exact exec_rev_selected hcmd

theorem runEvent_seq_s1Apply {s : State} (hq : s.seq = .s1Apply) :
    runEvent (.agent .seq) s = .next (s.applyCommand.goto .s2Ack) := by
  rw [runEvent_seq hq, seqRow, exec, execS1Apply, atState_here hq]

theorem runEvent_seq_s2Ack {s : State} (hq : s.seq = .s2Ack) :
    runEvent (.agent .seq) s = .next (s.acknowledge.goto .s3Tx0) := by
  rw [runEvent_seq hq, seqRow, exec, execS2Ack, atState_here hq]

/-- Settles O27: both sides are APPLY and then ACKCHK, the sequencer's with `SEQ` moved on. -/
theorem cycleAppliesTheCommandsClass : Obligations.CycleAppliesTheCommandsClass := by
  refine fun s hq => ⟨s.applyCommand.acknowledge, exec_decodeCommand_cmd s, ?_⟩
  calc runTrace (agents [.seq, .seq]) s
    _ = runTrace (agents [.seq]) (s.applyCommand.goto .s2Ack) := runTrace_cons_of_next (runEvent_seq_s1Apply hq)
    _ = .next ((s.applyCommand.goto .s2Ack).acknowledge.goto .s3Tx0) :=
      runTrace_cons_of_next (runEvent_seq_s2Ack (s := s.applyCommand.goto .s2Ack) rfl)
    _ = .next (s.applyCommand.acknowledge.goto .s3Tx0) := by rw [acknowledge_goto]; rfl

/-! ## The outputs between their writes -/

/-- What a step leaves of the outputs: both but at their writers' micro-states (R190). -/
structure OutputFrame (s t : State) : Prop where
  duty : s.seq ≠ .s1Apply → s.seq ≠ .s5bMark → t.duty = s.duty
  dir : s.seq ≠ .s1Apply → t.dir = s.dir

theorem OutputFrame.of_keep {s t : State} (hduty : t.duty = s.duty) (hdir : t.dir = s.dir) : OutputFrame s t :=
  ⟨fun _ _ => hduty, fun _ => hdir⟩

theorem OutputFrame.refl (s : State) : OutputFrame s s := .of_keep rfl rfl

/-- The sequencer's step, micro-state by micro-state: APPLY may write both outputs, the mark the duty alone (R200, R204, R217). -/
theorem outputFrame_of_exec_seqRow {s t : State} (h : exec (seqRow s.seq) s = .next t) : OutputFrame s t := by
  cases hq : s.seq <;> rw [hq, seqRow, exec] at h <;> have hbody := next_of_atState_here hq h
  case s1Apply => exact ⟨fun hne => absurd hq hne, fun hne => absurd hq hne⟩
  case s5bMark =>
    obtain rfl := Host.Outcome.next.inj hbody
    exact ⟨fun _ hne => absurd hq hne, fun _ => by simp⟩
  case s1Enter | s1Exit | s2Ack | s5aRec | s5aClear | s5bRef | s5bClear =>
    obtain rfl := Host.Outcome.next.inj hbody
    exact .of_keep (by simp) (by simp)
  case s1Read =>
    obtain ⟨-, hafter⟩ := snapshotPair_next_cases hbody
    obtain rfl := Host.Outcome.next.inj hafter
    exact .of_keep rfl rfl
  case s3Tx0 | s3Tx1 | s3Tx2 | s3Tx3 =>
    rcases transmit_next_cases hbody with ⟨-, rfl⟩ | ⟨-, rfl⟩
    · exact .refl _
    · exact .of_keep rfl rfl
  case s4Await => split at hbody <;> obtain rfl := Host.Outcome.next.inj hbody <;> exact .of_keep rfl rfl
  case s5aStore =>
    obtain ⟨b, rest, -, huse⟩ := readByte_next_cases hbody
    obtain rfl := Host.Outcome.next.inj huse
    exact .of_keep rfl rfl
  case s5aWait | s5bWait =>
    rcases when_next_cases hbody with ⟨-, rfl⟩ | ⟨-, hgo⟩
    · exact .refl _
    · obtain rfl := Host.Outcome.next.inj hgo
      exact .of_keep rfl rfl
  case s5bDrain =>
    rcases when_next_cases hbody with ⟨-, rfl⟩ | ⟨-, hread⟩
    · exact .refl _
    · obtain ⟨b, rest, -, huse⟩ := readByte_next_cases hread
      obtain rfl := Host.Outcome.next.inj huse
      exact .of_keep rfl rfl

/-- No agent but the sequencer owns an output (R20, R31). -/
theorem outputFrame_of_runEvent_agent {a : AgentEvent} {s t : State} (h : runEvent (.agent a) s = .next t) :
    OutputFrame s t := by
  by_cases ha : a = .seq
  · subst ha
    exact outputFrame_of_exec_seqRow h
  · obtain ⟨-, -, -, -, hkeep, -⟩ := registersAreWrittenByTheirOwners a s t h
    obtain ⟨-, -, -, -, -, hduty, hdir, -⟩ := hkeep ha
    exact .of_keep hduty hdir

theorem outputFrame_of_codeRow {mode : CountMode} {i : Instr} {s t : State} (hi : ∃ code, i = codeRow mode code)
    (h : exec i s = .next t) : OutputFrame s t := by
  obtain ⟨code, rfl⟩ := hi
  rw [exec_codeRow] at h
  rcases codeStep_next_cases h with rfl | ⟨-, -, -, -, rfl⟩
  · exact .refl t
  · exact .of_keep rfl rfl

theorem outputFrame_of_microState {i : Instr} {s t : State} (hi : i ∈ microStates.map seqRow) (h : exec i s = .next t) :
    OutputFrame s t := by
  obtain ⟨q, -, rfl⟩ := List.mem_map.mp hi
  by_cases hq : s.seq = q
  · subst hq
    exact outputFrame_of_exec_seqRow h
  · obtain rfl := eq_of_next_eq_next (exec_seqRow_elsewhere hq) h
    exact .refl t

theorem outputFrame_of_sendStatus {form : Bool} {s t : State} (h : sendStatus form s = .next t) : OutputFrame s t := by
  rcases sendStatus_next_cases h with rfl | ⟨-, rfl⟩
  · exact .refl t
  · exact .of_keep rfl rfl

/-- Every row of an agent stays in the frame; the rows that drive the motor by themselves are no agent's (log 15). -/
theorem outputFrame_of_exec {i : Instr} {s t : State} (ha : isAgentRow i = true) (h : exec i s = .next t) :
    OutputFrame s t := by
  cases i with
  | q0 | q1 | q2 | q3 | q4 | q5 | q6 | q7 | q8 | q9 | q10 | q11 | q12 | q13 | q14 | q15 =>
    exact outputFrame_of_codeRow (mode := .quarter) (by decide) h
  | c0 | c1 | c2 | c3 | c4 | c5 | c6 | c7 | c8 | c9 | c10 | c11 | c12 | c13 | c14 | c15 =>
    exact outputFrame_of_codeRow (mode := .coarse) (by decide) h
  | s1Enter | s1Read | s1Exit | s1Apply | s2Ack | s3Tx0 | s3Tx1 | s3Tx2 | s3Tx3 | s4Await
  | s5aStore | s5aRec | s5aWait | s5aClear | s5bMark | s5bDrain | s5bRef | s5bWait | s5bClear =>
    exact outputFrame_of_microState (by decide) h
  | statusElapsed | statusPoweredOn | statusCommandTimeout => exact outputFrame_of_sendStatus h
  | frame lo hi err st =>
    rcases execFrame_next_cases h with rfl | ⟨-, rfl⟩
    · exact .refl t
    · exact .of_keep (by simp) (by simp)
  | dec => exact outputFrame_of_runEvent_agent (a := .dec) h
  | clk => exact outputFrame_of_runEvent_agent (a := .clk) h
  | tick => exact outputFrame_of_runEvent_agent (a := .tick) h
  | enc smp => exact outputFrame_of_runEvent_agent (a := .enc smp) h
  | rx b => exact outputFrame_of_runEvent_agent (a := .rx b) h
  | ack | fwd | rev | csEnter | snapRead | csExit | apply | ackchk | forceZero | msRead | msClear => exact nomatch ha

theorem outputFrame_of_runEvent {e : Event} {s t : State} (ha : isAgentEvent s.cfg e = true)
    (h : runEvent e s = .next t) : OutputFrame s t := by
  rcases runEvent_next_cases h with ⟨i, hf, hx⟩ | ⟨r, -, rfl⟩ | ⟨-, rfl⟩
  · exact outputFrame_of_exec (fetchEvent_run_isAgentRow ha hf) hx
  · exact .of_keep rfl rfl
  · exact .refl t

/-- Taking the event, from the trace or free, changes neither an output nor `SEQ`. -/
theorem outputFrame_of_step {s t : State} (ha : s.AgentsOnly) (h : step s = .next t) : OutputFrame s t := by
  cases htr : s.trace with
  | nil =>
    rw [step_of_trace_nil htr] at h
    have hf : OutputFrame s.drawn t := outputFrame_of_runEvent_agent h
    exact ⟨hf.duty, hf.dir⟩
  | cons e rest =>
    rw [step_of_trace_cons htr] at h
    have hf : OutputFrame { s with trace := rest } t := outputFrame_of_runEvent (ha e (by simp [htr])) h
    exact ⟨hf.duty, hf.dir⟩

/-- Settles O28: an output that has changed was not in the frame, so `SEQ` held a writer of it. -/
theorem outputsHoldBetweenWrites : Obligations.OutputsHoldBetweenWrites := by
  intro s t ha h
  have hf : OutputFrame s t := outputFrame_of_step ha h
  refine ⟨fun hduty => ?_, not_imp_comm.mp hf.dir⟩
  by_contra hq
  obtain ⟨happly, hmark⟩ := not_or.mp hq
  exact hduty (hf.duty happly hmark)

end Sys2Proof.Machine

/-! PROOFS of the sequencer family: what each micro-state does (R201 to R221), the successor table with its blocking points (R200,
R222), the two waits polled once per tick (R211, R215, R225, R243), and the status byte after a timeout (R205, R224). -/

namespace Sys2Proof.Machine

/-! ## The snapshot, APPLY and ACKCHK -/

/-- APPLY's two writes from any state, the gate written out (R181, R182). -/
theorem applyCommand_eq (s : State) : s.applyCommand = { s with
    dir := if s.cmd.getLsbD 7 then .reverse else .forward
    duty := if s.errst = .noError then BitVec.ofNat 8 (s.cfg.dutyScale * (s.cmd.setWidth 7).toNat) else 0#8 } := by
  obtain ⟨hfree, hgated⟩ := applyWritesDirectionAndGatedDuty s
  by_cases herr : s.errst = .noError
  · rw [if_pos herr]
    exact Host.Outcome.next.inj (hfree herr)
  · rw [if_neg herr]
    exact Host.Outcome.next.inj (hgated herr)

/-- Settles O29: `SEQ` holds the micro-state, so its work is done; the read is masked, APPLY is gated. -/
theorem snapshotAndApplyStates : Obligations.SnapshotAndApplyStates := by
  refine fun s => ⟨fun hq => ?enter, fun hq hm => ?read, fun hq => ?exit, fun hq => ?apply⟩
  case enter => rw [exec, execS1Enter, atState_here hq, State.maskOn, State.goto]
  case read => rw [exec, execS1Read, atState_here hq, snapshotPair_masked hm, State.goto]
  case exit => rw [exec, execS1Exit, atState_here hq, State.maskOff, State.goto]
  case apply => rw [exec, execS1Apply, atState_here hq, applyCommand_eq, State.goto]

/-- Settles O30: the two cases of ACKCHK's test. -/
theorem acknowledgeCheckState : Obligations.AcknowledgeCheckState := by
  intro s hq
  rw [exec, execS2Ack, atState_here hq]
  refine ⟨fun hcmd => ?_, fun hcmd => ?_⟩
  · rw [acknowledge_of_sentinel hcmd, State.goto]
  · rw [acknowledge_of_ne_sentinel hcmd, State.goto]

/-! ## The transmit states -/

/-- PositionLow is Position modulo 256 (R53). -/
theorem positionLow_eq_ofNat (s : State) : s.positionLow = BitVec.ofNat 8 s.snapPos.toNat := by
  apply BitVec.eq_of_toNat_eq
  simp [State.positionLow]

/-- PositionHigh is Position divided by 256 (R53). -/
theorem positionHigh_eq_ofNat (s : State) : s.positionHigh = BitVec.ofNat 8 (s.snapPos.toNat / 256) := by
  apply BitVec.eq_of_toNat_eq
  simp [State.positionHigh, Nat.shiftRight_eq_div_pow]

/-- A transmit state's step with the transport ready (R41, R207 to R210). -/
theorem transmitState_ready {q r : SeqState} {s : State} (hq : s.seq = q) (hr : s.txReady = true) (b : State → Byte) :
    atState q s (fun s => transmit (b s) r s) = .next { s with txlog := s.txlog ++ [b s], seq := r } :=
  (atState_here hq _).trans (transmit_ready hr (b s) r)

/-- With the transport not ready it waits, and its row does nothing elsewhere either (R41, log 7). -/
theorem transmitState_blocked {q r : SeqState} {s : State} (hr : s.txReady = false) (b : State → Byte) :
    atState q s (fun s => transmit (b s) r s) = .next s := by
  by_cases hq : s.seq = q
  · exact (atState_here hq _).trans (transmit_blocked hr (b s) r)
  · exact atState_elsewhere hq _

/-- Settles O31: the three sends, their bytes as the low part, the high part and the count of the snapshot. -/
theorem transmitStatesSendTheSnapshot : Obligations.TransmitStatesSendTheSnapshot := by
  refine fun s => ⟨fun hq hr => ?low, fun hq hr => ?high, fun hq hr => ?count, fun hr => ⟨?_, ?_, ?_⟩⟩
  case low =>
    rw [← positionLow_eq_ofNat]
    exact transmitState_ready hq hr State.positionLow
  case high =>
    rw [← positionHigh_eq_ofNat]
    exact transmitState_ready hq hr State.positionHigh
  case count => exact transmitState_ready hq hr State.snapErr
  · exact transmitState_blocked hr State.positionLow
  · exact transmitState_blocked hr State.positionHigh
  · exact transmitState_blocked hr State.snapErr

theorem status_noError {s : State} (h : s.errst = .noError) : s.status = s.elapsed := by rw [State.status, h]

theorem status_poweredOn {s : State} (h : s.errst = .poweredOn) : s.status = errorStatus s.cfg.codePoweredOn := by
  rw [State.status, h]

theorem status_commandTimeout {s : State} (h : s.errst = .commandTimeout) :
    s.status = errorStatus s.cfg.codeCommandTimeout := by
  rw [State.status, h]

/-- Settles O32: the send of `S3_TX3`, its byte by the error state (R205). -/
theorem statusByteState : Obligations.StatusByteState := by
  intro s hq
  have hsend (hr : s.txReady = true) :
      exec .s3Tx3 s = .next { s with txlog := s.txlog ++ [s.status], seq := .s4Await } :=
    transmitState_ready hq hr State.status
  refine ⟨fun hr herr => ?_, fun hr herr => ?_, fun hr herr => ?_, fun hr => transmitState_blocked hr State.status⟩
  · rw [hsend hr, status_noError herr]
  · rw [hsend hr, status_poweredOn herr, errorStatus]
  · rw [hsend hr, status_commandTimeout herr, errorStatus]

/-- A status row whose form holds is the send of `S3_TX3` (R205, R210, log 16). -/
theorem sendStatus_selected {form : Bool} {s : State} (hq : s.seq = .s3Tx3) (hform : form = true) :
    sendStatus form s = exec .s3Tx3 s := by
  rw [sendStatus, exec, execS3Tx3, atState_here hq, atState_here hq, when_of hform]

/-- Settles O33: the form each row names is the error state that decides the byte `S3_TX3` sends. -/
theorem statusRowsSendTheirForm : Obligations.StatusRowsSendTheirForm := by
  intro s hq hr
  obtain ⟨hnone, hpowered, htimeout, -⟩ := statusByteState s hq
  refine ⟨fun v herr hv => ?_, fun herr => ?_, fun herr => ?_⟩
  · rw [exec, execStatusElapsed, sendStatus_selected hq (by simp [herr, hv]), hnone hr herr, hv]
  · rw [exec, execStatusPoweredOn, sendStatus_selected hq (decide_eq_true herr), hpowered hr herr]
  · rw [exec, execStatusCommandTimeout, sendStatus_selected hq (decide_eq_true herr), htimeout hr herr]

/-! ## The bounded wait -/

theorem byteAvailable_iff {s : State} : s.byteAvailable = true ↔ s.rxq ≠ [] := by simp [State.byteAvailable]

theorem byteAvailable_eq_false_iff {s : State} : s.byteAvailable = false ↔ s.rxq = [] := by simp [State.byteAvailable]

theorem timedOut_iff {s : State} : s.timedOut = true ↔ s.cfg.timeoutTicks ≤ s.ms.toNat := decide_eq_true_iff

theorem timedOut_eq_false_iff {s : State} : s.timedOut = false ↔ s.ms.toNat < s.cfg.timeoutTicks := by
  rw [State.timedOut, decide_eq_false_iff_not, Nat.not_le]

/-- Settles O35: the four outcomes of the poll's two tests. -/
theorem awaitPollDecides : Obligations.AwaitPollDecides := by
  refine fun s hq => ⟨fun hb hms => ?byte, fun hb hms => ?timeout, fun hb hms => ?tie, fun hb hms => ?stay⟩ <;>
    rw [exec, execS4Await, atState_here hq]
  case byte =>
    rw [byteAvailable_iff.mpr hb, timedOut_eq_false_iff.mpr hms]
    rfl
  case timeout =>
    rw [byteAvailable_eq_false_iff.mpr hb, timedOut_iff.mpr hms]
    rfl
  case tie =>
    rw [byteAvailable_iff.mpr hb, timedOut_iff.mpr hms]
    exact (tieBranch_cases s).imp (fun hstore => by rw [hstore]; rfl) (fun hmark => by rw [hmark]; rfl)
  case stay => rw [byteAvailable_eq_false_iff.mpr hb, timedOut_eq_false_iff.mpr hms]

/-! ## A command received -/

/-- Settles O36: `readByte` takes the head of the queue; the other two states have no condition. -/
theorem commandReceivedStates : Obligations.CommandReceivedStates := by
  refine fun s => ⟨fun b rest hq hrx => ?store, execS5aRec_here, fun hq => ?clear⟩
  case store => rw [exec, execS5aStore, atState_here hq, readByte_cons hrx, State.storeCommand, State.goto]
  case clear => rw [exec, execS5aClear, atState_here hq, State.clearMs, State.goto]

/-- R215's test below the cadence. -/
theorem cadenceDone_below {s : State} (h : s.elapsed.toNat < s.cfg.cadenceTicks) :
    s.cadenceDone = decide (s.ms.toNat = s.cfg.cadenceTicks) := if_pos h

/-- R215's test from the cadence on. -/
theorem cadenceDone_beyond {s : State} (h : s.cfg.cadenceTicks ≤ s.elapsed.toNat) :
    s.cadenceDone = decide (s.ms ≠ s.elapsed) := if_neg (Nat.not_lt.mpr h)

/-- A wait for a condition leaves where it holds (R10, R222). -/
theorem waitState_leaves {q r : SeqState} {s : State} (hq : s.seq = q) (c : State → Bool) (hc : c s = true) :
    atState q s (fun s => when (c s) s fun s => .next (s.goto r)) = .next { s with seq := r } :=
  (atState_here hq _).trans (when_of hc s _)

/-- It stays where it does not (R10, R222). -/
theorem waitState_stays {q r : SeqState} {s : State} (hq : s.seq = q) (c : State → Bool) (hc : c s = false) :
    atState q s (fun s => when (c s) s fun s => .next (s.goto r)) = .next s :=
  (atState_here hq _).trans (when_not hc s _)

/-- Settles O37: the wait for R215's test, on either side of the cadence. -/
theorem cadenceWaitPoll : Obligations.CadenceWaitPoll := by
  refine fun s hq => ⟨fun he hms => ?_, fun he hms => ?_, fun he hms => ?_, fun he hms => ?_⟩
  · exact waitState_leaves hq State.cadenceDone ((cadenceDone_below he).trans (decide_eq_true hms))
  · exact waitState_stays hq State.cadenceDone ((cadenceDone_below he).trans (decide_eq_false hms))
  · exact waitState_leaves hq State.cadenceDone ((cadenceDone_beyond he).trans (decide_eq_true hms))
  · exact waitState_stays hq State.cadenceDone ((cadenceDone_beyond he).trans (decide_eq_false (not_not_intro hms)))

/-! ## A timeout -/

/-- The one error slot takes a timeout only when empty (R217, R245). -/
theorem raiseTimeout_eq (s : State) :
    s.raiseTimeout = { s with errst := if s.errst = .noError then .commandTimeout else s.errst } := by
  rw [State.raiseTimeout]
  split
  · next herr => rw [if_pos herr]
  all_goals next herr => rw [if_neg (by simp [herr])]

/-- Settles O38: the four writes of the mark. -/
theorem timeoutMarkState : Obligations.TimeoutMarkState := by
  intro s hq
  rw [exec, execS5bMark, atState_here hq, raiseTimeout_eq, State.record, State.forceZero, State.goto]

/-- Settles O39: the drain reads a byte where one is there, and waits elsewhere. -/
theorem timeoutDrainState : Obligations.TimeoutDrainState := by
  refine fun s hq => ⟨fun b rest hrx => ?read, fun hrx => ?wait⟩ <;> rw [exec, execS5bDrain, atState_here hq]
  case read =>
    have hb : s.byteAvailable = true := byteAvailable_iff.mpr (by simp [hrx])
    rw [when_of hb, readByte_cons hrx, State.storeCommand, State.goto]
  case wait => rw [when_not (byteAvailable_eq_false_iff.mpr hrx)]

/-- R220's test: `MS` has changed since the reference. -/
def State.msChanged (s : State) : Bool := decide (s.readMs ≠ s.t0)

/-- Settles O40: the reference, the wait for a change since it, the clear. -/
theorem timeoutWaitStates : Obligations.TimeoutWaitStates := by
  refine fun s => ⟨fun hq => ?reference, fun hq hms => ?leave, fun hq hms => ?stay, fun hq => ?clear⟩
  case reference => rw [exec, execS5bRef, atState_here hq, State.readMs, State.goto]
  case leave => exact waitState_leaves hq State.msChanged (decide_eq_true hms)
  case stay => exact waitState_stays hq State.msChanged (decide_eq_false (not_not_intro hms))
  case clear => rw [exec, execS5bClear, atState_here hq, State.clearMs, State.goto]

/-! ## The successor table -/

/-- The sequencer's step goes to a successor of its micro-state, or is a poll of a blocking point that changed nothing, micro-state by
micro-state (R200, R222). -/
theorem seq_of_exec_seqRow {s t : State} (h : exec (seqRow s.seq) s = .next t) :
    t.seq ∈ successors s.seq ∨ (s.seq ∈ blockingStates ∧ t = s) := by
  cases hq : s.seq <;> rw [hq, seqRow, exec] at h <;> have hbody := next_of_atState_here hq h
  case s1Enter | s1Exit | s1Apply | s2Ack | s5aRec | s5aClear | s5bMark | s5bRef | s5bClear =>
    obtain rfl := Host.Outcome.next.inj hbody
    exact .inl (List.mem_singleton_self _)
  case s1Read =>
    obtain ⟨-, hafter⟩ := snapshotPair_next_cases hbody
    obtain rfl := Host.Outcome.next.inj hafter
    exact .inl (List.mem_singleton_self _)
  case s3Tx0 | s3Tx1 | s3Tx2 | s3Tx3 =>
    rcases transmit_next_cases hbody with ⟨-, rfl⟩ | ⟨-, rfl⟩
    · exact .inr ⟨by decide, rfl⟩
    · exact .inl (List.mem_singleton_self _)
  case s4Await =>
    rcases execS4Await_next_cases hq h with ⟨-, rfl⟩ | ⟨-, -, hto⟩
    · exact .inr ⟨by decide, rfl⟩
    · exact .inl (List.mem_pair.mpr hto)
  case s5aStore =>
    obtain ⟨hto, -⟩ := execS5aStore_next_cases hq h
    exact .inl (List.mem_singleton.mpr hto)
  case s5aWait | s5bWait =>
    rcases when_next_cases hbody with ⟨-, rfl⟩ | ⟨-, hgo⟩
    · exact .inr ⟨by decide, rfl⟩
    · obtain rfl := Host.Outcome.next.inj hgo
      exact .inl (List.mem_singleton_self _)
  case s5bDrain =>
    rcases when_next_cases hbody with ⟨-, rfl⟩ | ⟨-, hread⟩
    · exact .inr ⟨by decide, rfl⟩
    · obtain ⟨b, rest, -, huse⟩ := readByte_next_cases hread
      obtain rfl := Host.Outcome.next.inj huse
      exact .inl (List.mem_singleton_self _)

/-- Outside the blocking points the sequencer's step answers: the invariant gives the mask to `S1_READ` and a byte to `S5A_STORE`
(R165, R213). -/
theorem exists_next_of_not_blocking {s : State} (hs : Inv s) (hblock : s.seq ∉ blockingStates) :
    ∃ t, exec (seqRow s.seq) s = .next t := by
  obtain ⟨henter, hread, hexit, happly⟩ := snapshotAndApplyStates s
  obtain ⟨hstore, hrec, hclear⟩ := commandReceivedStates s
  obtain ⟨href, -, -, hclearB⟩ := timeoutWaitStates s
  cases hq : s.seq
  case s1Enter => exact ⟨_, henter hq⟩
  case s1Read => exact ⟨_, hread hq (hs.maskIff.mpr (.inl hq))⟩
  case s1Exit => exact ⟨_, hexit hq⟩
  case s1Apply => exact ⟨_, happly hq⟩
  case s2Ack => exact ⟨_, (runEvent_seq hq).symm.trans (runEvent_seq_s2Ack hq)⟩
  case s5aStore =>
    obtain ⟨b, rest, hrx⟩ := List.exists_cons_of_ne_nil (hs.stored hq)
    exact ⟨_, hstore b rest hq hrx⟩
  case s5aRec => exact ⟨_, hrec hq⟩
  case s5aClear => exact ⟨_, hclear hq⟩
  case s5bMark => exact ⟨_, timeoutMarkState s hq⟩
  case s5bRef => exact ⟨_, href hq⟩
  case s5bClear => exact ⟨_, hclearB hq⟩
  all_goals exact absurd (by rw [hq]; decide) hblock

/-- Settles O41: outside the blocking points the step answers, and an answer that is no poll is at a successor. -/
theorem sequencerFollowsTheSuccessorTable : Obligations.SequencerFollowsTheSuccessorTable := by
  refine fun s => ⟨fun t => seq_of_exec_seqRow, fun hs hblock => ?_⟩
  obtain ⟨t, ht⟩ := exists_next_of_not_blocking hs hblock
  exact ⟨t, ht, (seq_of_exec_seqRow ht).resolve_right fun ⟨hin, _⟩ => hblock hin⟩

/-! ## A wait polled once per tick -/

/-- A micro-state's row as a line of a trace (R87). -/
theorem runEvent_seqAt (q : SeqState) (s : State) : runEvent (seqAt q) s = exec (seqRow q) s := by
  have hwf : (seqRow q).wf s.cfg = true := by cases q <;> rfl
  rw [runEvent, seqAt, fetchEvent_row_of_wf hwf]

/-- One round: the tick is counted before the poll (R88, R225). -/
theorem runTrace_round {q : SeqState} {s t : State} (hm : s.imask = false) (ht : s.tpend = false)
    (hpoll : exec (seqRow q) { s with ms := s.ms + 1#8 } = .next t) (es : List Event) :
    runTrace (msec ++ [seqAt q] ++ es) s = runTrace es t := by
  have htick : runEvent (.agent .tick) s = .next { s with tpend := true } := tickLatchesARequest s
  have hclk : runEvent (.agent .clk) { s with tpend := true } = .next { s with ms := s.ms + 1#8 } := by
    have hserved : { s with ms := s.ms + 1#8 } = { s with ms := s.ms + 1#8, tpend := false } := by rw [← ht]
    rw [hserved]
    exact exec_clk_enabled (s := { s with tpend := true }) rfl hm
  exact (runTrace_cons_of_next htick).trans
    ((runTrace_cons_of_next hclk).trans (runTrace_cons_of_next ((runEvent_seqAt q _).trans hpoll)))

theorem ms_toNat_succ_of_lt {b : Byte} (h : b.toNat + 1 < 256) : (b + 1#8).toNat = b.toNat + 1 := by
  rw [BitVec.toNat_add]
  exact Nat.mod_eq_of_lt h

/-- A wait that stays while `MS` is below a limit and leaves at it, polled once per tick: it leaves after exactly the ticks that are
missing (R225, R243). -/
theorem runTrace_polled_wait {q r : SeqState} {limit : Nat} (hlimit : limit < 256) (n : Nat) {s : State}
    (hm : s.imask = false) (ht : s.tpend = false) (hms : s.ms.toNat + (n + 1) = limit)
    (hstay : ∀ b : Byte, b.toNat < limit → exec (seqRow q) { s with ms := b } = .next { s with ms := b })
    (hleave : ∀ b : Byte, b.toNat = limit → exec (seqRow q) { s with ms := b } = .next { s with ms := b, seq := r }) :
    runTrace (repeated (n + 1) (msec ++ [seqAt q])) s = .next { s with ms := BitVec.ofNat 8 limit, seq := r } := by
  induction n generalizing s with
  | zero =>
    have hend : (s.ms + 1#8).toNat = limit := (ms_toNat_succ_of_lt (by omega)).trans hms
    rw [repeated, runTrace_round hm ht (hleave _ hend), ← hend, BitVec.ofNat_toNat, BitVec.setWidth_eq]
    rfl
  | succ n ih =>
    have hnext : (s.ms + 1#8).toNat = s.ms.toNat + 1 := ms_toNat_succ_of_lt (by omega)
    rw [repeated, runTrace_round hm ht (hstay _ (by omega))]
    exact ih (s := { s with ms := s.ms + 1#8 }) hm ht (by rw [hnext, ← hms]; omega) hstay hleave

/-- Settles O44: the cadence wait is such a wait, with the cadence as its limit. -/
theorem cadenceWaitEndsAtTheCadence : Obligations.CadenceWaitEndsAtTheCadence := by
  intro n s hq hm ht hcadence helapsed hms
  refine runTrace_polled_wait hcadence n hm ht hms (fun b hb => ?stay) (fun b hb => ?leave)
  all_goals obtain ⟨hleave, hstay, -, -⟩ := cadenceWaitPoll { s with ms := b } hq
  case stay => exact hstay helapsed hb.ne
  case leave => exact hleave helapsed hb

/-- Settles O45: with no byte the bounded wait is such a wait, with the timeout as its limit. -/
theorem silenceEndsInTheTimeout : Obligations.SilenceEndsInTheTimeout := by
  intro n s hq hm ht htimeout hrx hms
  refine runTrace_polled_wait htimeout n hm ht hms (fun b hb => ?stay) (fun b hb => ?leave)
  all_goals obtain ⟨-, hleave, -, hstay⟩ := awaitPollDecides { s with ms := b } hq
  case stay => exact hstay hrx hb
  case leave => exact hleave hrx hb.ge

/-! ## A legal step is one agent's step, or a frame's -/

/-- What one event of a legal trace does (R34, R87): one agent's step, or the four sends of a frame in one (R82). -/
def AgentStepOrFrame (s t : State) : Prop :=
  (∃ a, runEvent (.agent a) s = .next t) ∨
    (s.seq = .s3Tx0 ∧ ∃ lo hi err st, t = ((((s.sent lo).sent hi).sent err).sent st).goto .s4Await)

/-- To move nothing is the step that sets the transport's readiness to what it was. -/
theorem AgentStepOrFrame.refl (s : State) : AgentStepOrFrame s s := .inl ⟨.ready s.txReady, rfl⟩

/-- A row that is not enabled moves nothing; a code row that is enabled is DEC, a micro-state's or a status row the sequencer's step
(R87, R100). -/
theorem agentStepOrFrame_of_exec {i : Instr} {s t : State} (ha : isAgentRow i = true) (h : exec i s = .next t) :
    AgentStepOrFrame s t := by
  cases hr : rowEnabled i s
  case false =>
    obtain rfl := row_keeps_of_not_enabled ha hr h
    exact .refl t
  cases i with
  | q0 | q1 | q2 | q3 | q4 | q5 | q6 | q7 | q8 | q9 | q10 | q11 | q12 | q13 | q14 | q15
  | c0 | c1 | c2 | c3 | c4 | c5 | c6 | c7 | c8 | c9 | c10 | c11 | c12 | c13 | c14 | c15 =>
    obtain ⟨hrow, -⟩ := Bool.and_eq_true_iff.mp hr
    rw [of_decide_eq_true hrow] at h
    exact .inl ⟨.dec, (decSelectsTheCodesRow s).trans h⟩
  | s1Enter | s1Read | s1Exit | s1Apply | s2Ack | s3Tx0 | s3Tx1 | s3Tx2 | s3Tx3 | s4Await
  | s5aStore | s5aRec | s5aWait | s5aClear | s5bMark | s5bDrain | s5bRef | s5bWait | s5bClear =>
    obtain ⟨hrow, -⟩ := Bool.and_eq_true_iff.mp hr
    rw [of_decide_eq_true hrow] at h
    exact .inl ⟨.seq, h⟩
  | statusElapsed | statusPoweredOn | statusCommandTimeout =>
    obtain ⟨hsel, -⟩ := Bool.and_eq_true_iff.mp hr
    obtain ⟨hq, hform⟩ := Bool.and_eq_true_iff.mp hsel
    rw [decide_eq_true_eq] at hq
    exact .inl ⟨.seq, (runEvent_seq hq).trans ((sendStatus_selected hq hform).symm.trans h)⟩
  | frame lo hi err st =>
    rcases execFrame_next_cases h with rfl | ⟨hq, rfl⟩
    · exact .refl t
    · exact .inr ⟨hq, lo, hi, err, st, rfl⟩
  | dec => exact .inl ⟨.dec, h⟩
  | clk => exact .inl ⟨.clk, h⟩
  | tick => exact .inl ⟨.tick, h⟩
  | enc smp => exact .inl ⟨.enc smp, h⟩
  | rx b => exact .inl ⟨.rx b, h⟩
  | ack | fwd | rev | csEnter | snapRead | csExit | apply | ackchk | forceZero | msRead | msClear => exact nomatch ha

theorem agentStepOrFrame_of_runEvent {e : Event} {s t : State} (ha : isAgentEvent s.cfg e = true)
    (h : runEvent e s = .next t) : AgentStepOrFrame s t := by
  rcases runEvent_next_cases h with ⟨i, hf, hx⟩ | ⟨r, -, rfl⟩ | ⟨-, rfl⟩
  · exact agentStepOrFrame_of_exec (fetchEvent_run_isAgentRow ha hf) hx
  · exact .inl ⟨.ready r, rfl⟩
  · exact .refl t

/-- So is a step of the machine, past the event it takes from the trace, or past the free value it draws (log 1). -/
theorem agentStepOrFrame_of_step {s t : State} (ha : s.AgentsOnly) (h : step s = .next t) :
    (s.trace = [] ∧ AgentStepOrFrame s.drawn t) ∨
      ∃ e rest, s.trace = e :: rest ∧ AgentStepOrFrame { s with trace := rest } t := by
  cases htr : s.trace with
  | nil =>
    rw [step_of_trace_nil htr] at h
    exact .inl ⟨rfl, .inl ⟨_, h⟩⟩
  | cons e rest =>
    rw [step_of_trace_cons htr] at h
    exact .inr ⟨e, rest, rfl, agentStepOrFrame_of_runEvent (ha e (by simp [htr])) h⟩

/-- Neither the parameters nor the trace is written (R8, R87). -/
theorem AgentStepOrFrame.cfg_trace {s t : State} (h : AgentStepOrFrame s t) : t.cfg = s.cfg ∧ t.trace = s.trace := by
  rcases h with ⟨a, ha⟩ | ⟨-, lo, hi, err, st, rfl⟩
  · obtain ⟨hcfg, htr, -⟩ := registersAreWrittenByTheirOwners a s t ha
    exact ⟨hcfg, htr⟩
  · simp

/-- A trace of agents' steps stays one. -/
theorem agentsOnly_of_step {s t : State} (ha : s.AgentsOnly) (h : step s = .next t) : t.AgentsOnly := by
  rw [State.AgentsOnly]
  rcases agentStepOrFrame_of_step ha h with ⟨hnil, hstep⟩ | ⟨e, rest, htr, hstep⟩ <;>
    obtain ⟨hcfg, htrace⟩ := hstep.cfg_trace <;> rw [hcfg, htrace]
  · exact ha
  · exact fun f hf => ha f (htr ▸ List.mem_cons_of_mem e hf)

/-! ## An error that no acknowledge reaches before `ELAPSED` is recorded -/

/-- What a step leaves of the error and of the command that could acknowledge it: only ACKCHK takes an error away (R186), only
`S5A_STORE` and the drain write `CMD` (R213, R218), and the states after `S5A_REC` are entered through it (R200). -/
structure ErrorFrame (s t : State) : Prop where
  errst : s.errst ≠ .noError → t.errst = .noError → s.seq = .s2Ack ∧ s.cmd = Config.sentinel
  recorded : t.seq ∈ [SeqState.s5aWait, .s5aClear] → s.seq ∈ [SeqState.s5aRec, .s5aWait, .s5aClear]
  cmd : s.seq ≠ .s5bDrain → t.seq ≠ .s5aRec → t.cmd = s.cmd
  drained : s.seq = .s5bDrain → t.seq ≠ .s5bDrain → t.cmd = 0#8

/-- A step that keeps `ERRST` and `CMD`, taken outside the drain. -/
theorem ErrorFrame.of_keep {s t : State}
    (hrec : t.seq ∈ [SeqState.s5aWait, .s5aClear] → s.seq ∈ [SeqState.s5aRec, .s5aWait, .s5aClear])
    (hdrain : s.seq ≠ .s5bDrain) (herr : t.errst = s.errst) (hcmd : t.cmd = s.cmd) : ErrorFrame s t :=
  ⟨fun hne hno => absurd (herr.symm.trans hno) hne, hrec, fun _ _ => hcmd, fun hq => absurd hq hdrain⟩

/-- A step that also leaves `SEQ` may be taken anywhere. -/
theorem ErrorFrame.of_idle {s t : State} (hseq : t.seq = s.seq) (herr : t.errst = s.errst) (hcmd : t.cmd = s.cmd) :
    ErrorFrame s t :=
  ⟨fun hne hno => absurd (herr.symm.trans hno) hne, fun hq => by rw [hseq] at hq; exact List.mem_cons_of_mem _ hq,
    fun _ _ => hcmd, fun hq hne => absurd (hseq.trans hq) hne⟩

/-- In the successor table the two states after `S5A_REC` stand behind it and behind the first of them (R200). -/
theorem recorded_of_mem_successors {q r : SeqState} (hto : r ∈ [SeqState.s5aWait, .s5aClear]) (hsucc : r ∈ successors q) :
    q ∈ [SeqState.s5aRec, .s5aWait, .s5aClear] := by
  obtain rfl | rfl := List.mem_pair.mp hto <;> revert hsucc <;> cases q <;> decide

theorem recorded_of_exec_seqRow {s t : State} (h : exec (seqRow s.seq) s = .next t)
    (hto : t.seq ∈ [SeqState.s5aWait, .s5aClear]) : s.seq ∈ [SeqState.s5aRec, .s5aWait, .s5aClear] := by
  rcases seq_of_exec_seqRow h with hsucc | ⟨-, rfl⟩
  · exact recorded_of_mem_successors hto hsucc
  · exact List.mem_cons_of_mem _ hto

/-- The sequencer's step, micro-state by micro-state (R200). -/
theorem errorFrame_of_exec_seqRow {s t : State} (h : exec (seqRow s.seq) s = .next t) : ErrorFrame s t := by
  have hrec := recorded_of_exec_seqRow h
  cases hq : s.seq <;> rw [hq, seqRow, exec] at h <;> have hbody := next_of_atState_here hq h
  case s2Ack =>
    obtain rfl := Host.Outcome.next.inj hbody
    refine ⟨fun hne hno => ⟨hq, ?_⟩, hrec, fun _ _ => by simp, by simp [hq]⟩
    by_contra hcmd
    rw [acknowledge_of_ne_sentinel hcmd] at hno
    exact hne hno
  case s5bMark =>
    obtain rfl := Host.Outcome.next.inj hbody
    refine ⟨fun hne hno => ?_, hrec, fun _ _ => by simp, by simp [hq]⟩
    obtain ⟨hmarked, -⟩ := marked_raiseTimeout_record s
    exact absurd hno hmarked
  case s5aStore =>
    obtain ⟨hto, -, -, herr⟩ := execS5aStore_next_cases hq h
    exact ⟨fun hne hno => absurd (herr.symm.trans hno) hne, hrec, fun _ hne => absurd hto hne, by simp [hq]⟩
  case s5bDrain =>
    rcases when_next_cases hbody with ⟨-, rfl⟩ | ⟨-, hread⟩
    · exact .of_idle rfl rfl rfl
    · obtain ⟨b, rest, -, huse⟩ := readByte_next_cases hread
      obtain rfl := Host.Outcome.next.inj huse
      exact ⟨fun hne hno => absurd hno hne, hrec, fun hne => absurd hq hne, fun _ _ => rfl⟩
  case s1Enter | s1Exit | s1Apply | s5aRec | s5aClear | s5bRef | s5bClear =>
    obtain rfl := Host.Outcome.next.inj hbody
    exact .of_keep hrec (by simp [hq]) rfl rfl
  case s1Read =>
    obtain ⟨-, hafter⟩ := snapshotPair_next_cases hbody
    obtain rfl := Host.Outcome.next.inj hafter
    exact .of_keep hrec (by simp [hq]) rfl rfl
  case s3Tx0 | s3Tx1 | s3Tx2 | s3Tx3 =>
    rcases transmit_next_cases hbody with ⟨-, rfl⟩ | ⟨-, rfl⟩
    · exact .of_idle rfl rfl rfl
    · exact .of_keep hrec (by simp [hq]) rfl rfl
  case s4Await =>
    rcases execS4Await_next_cases hq h with ⟨-, rfl⟩ | ⟨hf, -, -⟩
    · exact .of_idle rfl rfl rfl
    · exact .of_keep hrec (by simp [hq]) hf.errst hf.cmd
  case s5aWait | s5bWait =>
    rcases when_next_cases hbody with ⟨-, rfl⟩ | ⟨-, hgo⟩
    · exact .of_idle rfl rfl rfl
    · obtain rfl := Host.Outcome.next.inj hgo
      exact .of_keep hrec (by simp [hq]) rfl rfl

/-- No other agent writes `ERRST`, `CMD` or `SEQ` (R20, R31), and a frame's sends leave the first two. -/
theorem AgentStepOrFrame.errorFrame {s t : State} (h : AgentStepOrFrame s t) : ErrorFrame s t := by
  rcases h with ⟨a, ha⟩ | ⟨hq, lo, hi, err, st, rfl⟩
  · by_cases hseq : a = .seq
    · subst hseq
      exact errorFrame_of_exec_seqRow ha
    · obtain ⟨-, -, -, -, hkeep, -⟩ := registersAreWrittenByTheirOwners a s t ha
      obtain ⟨hcmd, herr, -, -, -, -, -, -, hq, -⟩ := hkeep hseq
      exact .of_idle hq herr hcmd
  · exact .of_keep (by simp) (by simp [hq]) (by simp) (by simp)

theorem errorFrame_of_step {s t : State} (ha : s.AgentsOnly) (h : step s = .next t) : ErrorFrame s t := by
  rcases agentStepOrFrame_of_step ha h with ⟨-, hstep⟩ | ⟨e, rest, -, hstep⟩
  · exact { hstep.errorFrame with }
  · exact { hstep.errorFrame with }

/-- An error is active and stays so until `S5A_REC` records `ELAPSED` anew: once the drain is over `CMD` is 0, no acknowledge, until a
byte is stored, and that is recorded at once (R217, R218, R224). -/
structure ErrorStands (s : State) : Prop where
  active : s.errst ≠ .noError
  unrecorded : s.seq ∉ [SeqState.s5aWait, .s5aClear]
  stopped : s.seq ≠ .s5bDrain → s.seq ≠ .s5aRec → s.cmd = 0#8

/-- Every step but the one that records keeps it. -/
theorem ErrorStands.of_frame {s t : State} (hs : ErrorStands s) (hrec : s.seq ≠ .s5aRec) (hf : ErrorFrame s t) :
    ErrorStands t where
  active hno := by
    obtain ⟨hq, hcmd⟩ := hf.errst hs.active hno
    have hzero : s.cmd = 0#8 := hs.stopped (by simp [hq]) hrec
    exact absurd (hzero.symm.trans hcmd) (by decide)
  unrecorded hto := by
    rcases List.mem_cons.mp (hf.recorded hto) with hq | hq
    · exact hrec hq
    · exact hs.unrecorded hq
  stopped hdrain hstored := by
    by_cases hq : s.seq = .s5bDrain
    · exact hf.drained hq hdrain
    · exact (hf.cmd hq hstored).trans (hs.stopped hq hrec)

/-- It holds along every run that takes no step at `S5A_REC`. -/
theorem errorStands_of_runs {s t : State} (ha : s.AgentsOnly) (hs : ErrorStands s)
    (hrun : Runs (fun u => u.seq ≠ .s5aRec) s t) : t.AgentsOnly ∧ ErrorStands t := by
  induction hrun with
  | refl => exact ⟨ha, hs⟩
  | step _ hrec hstep ih =>
    obtain ⟨hagents, hstands⟩ := ih
    exact ⟨agentsOnly_of_step hagents hstep, hstands.of_frame hrec (errorFrame_of_step hagents hstep)⟩

/-- While an error is active the status byte is its code with bit 7 set (R205). -/
theorem status_of_error {s : State} (h : s.errst ≠ .noError) :
    s.status = errorStatus s.cfg.codePoweredOn ∨ s.status = errorStatus s.cfg.codeCommandTimeout := by
  cases herr : s.errst with
  | noError => exact absurd herr h
  | poweredOn => exact .inl (status_poweredOn herr)
  | commandTimeout => exact .inr (status_commandTimeout herr)

/-- Settles O54: the error of a timeout stands along the run, so the status byte is its code. -/
theorem timeoutSentinelIsNeverSent : Obligations.TimeoutSentinelIsNeverSent := by
  intro s t ha hq herr hrun
  have hs : ErrorStands s := ⟨herr, by simp [hq], fun hne => absurd hq hne⟩
  obtain ⟨-, ht⟩ := errorStands_of_runs ha hs hrun
  exact ⟨ht.active, status_of_error ht.active⟩

end Sys2Proof.Machine

/-! PROOFS of the exceptions family: the transitions of `ERRST` (R245), and what can stop the machine from a state of the invariant
(R39, R87, R240). -/

namespace Sys2Proof.Machine

/-! ## The transitions of the error state -/

/-- The sequencer's step keeps `ERRST` but in `S2_ACK`, where ACKCHK takes the error away (R186), and in `S5B_MARK`, which fills the
empty slot (R217), micro-state by micro-state (R200). -/
theorem errst_of_exec_seqRow {s t : State} (h : exec (seqRow s.seq) s = .next t) :
    t.errst = s.errst ∨ (s.seq = .s2Ack ∧ s.cmd = Config.sentinel ∧ t.errst = .noError) ∨
      (s.seq = .s5bMark ∧ s.errst = .noError ∧ t.errst = .commandTimeout) := by
  cases hq : s.seq <;> rw [hq, seqRow, exec] at h <;> have hbody := next_of_atState_here hq h
  case s2Ack =>
    obtain rfl := Host.Outcome.next.inj hbody
    by_cases hcmd : s.cmd = Config.sentinel
    · rw [acknowledge_of_sentinel hcmd]
      exact .inr (.inl ⟨rfl, hcmd, rfl⟩)
    · rw [acknowledge_of_ne_sentinel hcmd]
      exact .inl rfl
  case s5bMark =>
    obtain rfl := Host.Outcome.next.inj hbody
    rw [raiseTimeout_eq]
    by_cases herr : s.errst = .noError
    · exact .inr (.inr ⟨rfl, herr, if_pos herr⟩)
    · exact .inl (if_neg herr)
  case s1Enter | s1Exit | s1Apply | s5aRec | s5aClear | s5bRef | s5bClear =>
    obtain rfl := Host.Outcome.next.inj hbody
    exact .inl rfl
  case s1Read =>
    obtain ⟨-, hafter⟩ := snapshotPair_next_cases hbody
    obtain rfl := Host.Outcome.next.inj hafter
    exact .inl rfl
  case s3Tx0 | s3Tx1 | s3Tx2 | s3Tx3 =>
    rcases transmit_next_cases hbody with ⟨-, rfl⟩ | ⟨-, rfl⟩ <;> exact .inl rfl
  case s4Await =>
    rcases execS4Await_next_cases hq h with ⟨-, rfl⟩ | ⟨hf, -, -⟩
    · exact .inl rfl
    · exact .inl hf.errst
  case s5aStore =>
    obtain ⟨-, -, -, herr⟩ := execS5aStore_next_cases hq h
    exact .inl herr
  case s5aWait | s5bWait =>
    rcases when_next_cases hbody with ⟨-, rfl⟩ | ⟨-, hgo⟩
    · exact .inl rfl
    · obtain rfl := Host.Outcome.next.inj hgo
      exact .inl rfl
  case s5bDrain =>
    rcases when_next_cases hbody with ⟨-, rfl⟩ | ⟨-, hread⟩
    · exact .inl rfl
    · obtain ⟨b, rest, -, huse⟩ := readByte_next_cases hread
      obtain rfl := Host.Outcome.next.inj huse
      exact .inl rfl

/-- Settles O46: `ERRST` is the sequencer's alone, whose step moves it in the two micro-states; there it answers such a state. -/
theorem errorStateTransitions : Obligations.ErrorStateTransitions := by
  refine ⟨State.powerOn_errst, fun a s t h => ?moves, fun s hq hcmd => ?acknowledged, fun s hq herr => ?marked⟩
  case moves =>
    by_cases ha : a = .seq
    · subst ha
      exact (errst_of_exec_seqRow h).imp_right (Or.imp (⟨rfl, ·⟩) (⟨rfl, ·⟩))
    · obtain ⟨-, -, -, -, hkeep, -⟩ := registersAreWrittenByTheirOwners a s t h
      obtain ⟨-, herr, -⟩ := hkeep ha
      exact .inl herr
  case acknowledged =>
    refine ⟨_, runEvent_seq_s2Ack hq, ?_⟩
    rw [acknowledge_of_sentinel hcmd]
    rfl
  case marked => exact ⟨_, (runEvent_seq hq).trans (timeoutMarkState s hq), if_pos herr⟩

/-! ## What answers a next state -/

/-- The outcome is a next state. -/
def Answers (o : Out) : Prop := ∃ t, o = .next t

theorem answers_next (t : State) : Answers (.next t) := ⟨t, rfl⟩

/-- A guarded step answers where its body does, and elsewhere by not moving (R10). -/
theorem answers_when {c : Bool} {s : State} {body : State → Out} (h : c = true → Answers (body s)) :
    Answers (when c s body) := by
  cases c with
  | false => exact answers_next s
  | true => exact h rfl

theorem answers_atState {q : SeqState} {s : State} {body : State → Out} (h : s.seq = q → Answers (body s)) :
    Answers (atState q s body) :=
  answers_when fun hq => h (of_decide_eq_true hq)

theorem answers_transmit (b : Byte) (q : SeqState) (s : State) : Answers (transmit b q s) :=
  answers_when fun _ => answers_next _

theorem answers_takeInterrupt (q : Irq) (handler : State → State) (s : State) : Answers (takeInterrupt q handler s) :=
  answers_when fun _ => answers_next _

theorem answers_codeRow {mode : CountMode} {i : Instr} (hi : ∃ code, i = codeRow mode code) (s : State) :
    Answers (exec i s) := by
  obtain ⟨code, rfl⟩ := hi
  rw [exec_codeRow]
  exact answers_when fun _ => answers_takeInterrupt _ _ s

theorem answers_sendStatus (form : Bool) (s : State) : Answers (sendStatus form s) :=
  answers_atState fun _ => answers_when fun _ => answers_transmit _ _ s

theorem answers_execFrame (lo hi err st : Byte) (s : State) : Answers (execFrame lo hi err st s) :=
  answers_atState fun _ => answers_when fun _ => answers_next _

/-! ## The sequencer's step never stops -/

/-- A wait for a condition leaves or stays (R10, R222). -/
theorem answers_waitState {q r : SeqState} (c : State → Bool) (s : State) :
    Answers (atState q s fun s => when (c s) s fun s => .next (s.goto r)) :=
  answers_atState fun _ => answers_when fun _ => answers_next _

theorem answers_execS4Await (s : State) : Answers (execS4Await s) :=
  answers_atState fun _ => by split <;> exact answers_next _

/-- The drain reads only where a byte is there (R218). -/
theorem answers_execS5bDrain (s : State) : Answers (execS5bDrain s) := by
  refine answers_atState fun _ => answers_when fun hb => ?_
  obtain ⟨b, rest, hrx⟩ := List.exists_cons_of_ne_nil (byteAvailable_iff.mp hb)
  rw [readByte_cons hrx]
  exact answers_next _

/-- At a blocking point the step waits or goes on, whatever the registers hold (R222). -/
theorem answers_of_blocking {s : State} (hblock : s.seq ∈ blockingStates) : Answers (exec (seqRow s.seq) s) := by
  cases hq : s.seq
  case s3Tx0 | s3Tx1 | s3Tx2 | s3Tx3 => exact answers_atState fun _ => answers_transmit _ _ s
  case s4Await => exact answers_execS4Await s
  case s5aWait => exact answers_waitState State.cadenceDone s
  case s5bWait => exact answers_waitState State.msChanged s
  case s5bDrain => exact answers_execS5bDrain s
  all_goals exact absurd hblock (by rw [hq]; decide)

/-- From the invariant the row of every micro-state answers: the one `SEQ` holds runs, the others do not move (R33, R200). -/
theorem answers_microState {i : Instr} {s : State} (hi : i ∈ microStates.map seqRow) (hs : Inv s) :
    Answers (exec i s) := by
  obtain ⟨q, -, rfl⟩ := List.mem_map.mp hi
  by_cases hq : s.seq = q
  · subst hq
    by_cases hblock : s.seq ∈ blockingStates
    · exact answers_of_blocking hblock
    · exact exists_next_of_not_blocking hs hblock
  · exact ⟨s, exec_seqRow_elsewhere hq⟩

/-! ## What stops the machine -/

/-- From the invariant every agent's row answers but the host's byte beyond `RX_DEPTH`, which is not enabled (R39, log 14). -/
theorem exec_answers_or_overrun {i : Instr} {s : State} (ha : isAgentRow i = true) (hs : Inv s) :
    Answers (exec i s) ∨ (rowEnabled i s = false ∧ exec i s = .refused .rxOverrun) := by
  cases i with
  | rx b =>
    by_cases hroom : s.rxq.length < s.cfg.rxDepth
    · exact .inl ⟨_, receive_of_room hroom⟩
    · exact .inr ⟨decide_eq_false hroom, receive_of_full (Nat.not_lt.mp hroom)⟩
  | q0 | q1 | q2 | q3 | q4 | q5 | q6 | q7 | q8 | q9 | q10 | q11 | q12 | q13 | q14 | q15 =>
    exact .inl (answers_codeRow (mode := .quarter) (by decide) s)
  | c0 | c1 | c2 | c3 | c4 | c5 | c6 | c7 | c8 | c9 | c10 | c11 | c12 | c13 | c14 | c15 =>
    exact .inl (answers_codeRow (mode := .coarse) (by decide) s)
  | s1Enter | s1Read | s1Exit | s1Apply | s2Ack | s3Tx0 | s3Tx1 | s3Tx2 | s3Tx3 | s4Await
  | s5aStore | s5aRec | s5aWait | s5aClear | s5bMark | s5bDrain | s5bRef | s5bWait | s5bClear =>
    exact .inl (answers_microState (by decide) hs)
  | statusElapsed | statusPoweredOn | statusCommandTimeout => exact .inl (answers_sendStatus _ s)
  | frame lo hi err st => exact .inl (answers_execFrame lo hi err st s)
  | dec => exact .inl ⟨_, runEvent_dec s⟩
  | clk => exact .inl ⟨_, runEvent_clk s⟩
  | tick | enc => exact .inl (answers_next _)
  | ack | fwd | rev | csEnter | snapRead | csExit | apply | ackchk | forceZero | msRead | msClear => exact nomatch ha

/-- Only the steps of agents are ever enabled (R87, log 15). -/
theorem isAgentRow_of_rowEnabled {i : Instr} {s : State} (h : rowEnabled i s = true) : isAgentRow i = true := by
  cases i with
  | ack | fwd | rev | csEnter | snapRead | csExit | apply | ackchk | forceZero | msRead | msClear => exact nomatch h
  | _ => rfl

/-- The three ways an event can come out: a next state, an overrun of the host's, no line of a trace of this device. -/
def AnswersOrRefused (o : Out) : Prop :=
  Answers o ∨ o = .refused .rxOverrun ∨ ∃ err, o = .refused (.undecodable err)

theorem runEvent_of_fetch_run {e : Event} {s : State} {i : Instr} (hf : fetchEvent e s = .run i) :
    runEvent e s = exec i s := by
  simp only [runEvent, hf]

theorem runEvent_of_fetch_setReady {e : Event} {s : State} {r : Bool} (hf : fetchEvent e s = .setReady r) :
    runEvent e s = .next { s with txReady := r } := by
  simp only [runEvent, hf]

/-- An agents' event comes out in one of the three ways, by what it fetches (R87). -/
theorem answersOrRefused_of_runEvent {e : Event} {s : State} (ha : isAgentEvent s.cfg e = true) (hs : Inv s) :
    AnswersOrRefused (runEvent e s) := by
  cases hf : fetchEvent e s with
  | run i =>
    rw [runEvent_of_fetch_run hf]
    exact (exec_answers_or_overrun (fetchEvent_run_isAgentRow ha hf) hs).imp_right fun ⟨_, hover⟩ => .inl hover
  | setReady r => exact .inl ⟨_, runEvent_of_fetch_setReady hf⟩
  | idle => exact .inl ⟨s, by simp only [runEvent, hf]⟩
  | undecodable err => exact .inr (.inr ⟨err, by simp only [runEvent, hf]⟩)

/-- The events to come are agents', and so is the one drawn past the trace's end (log 1). -/
theorem answersOrRefused_of_step {s : State} (hs : Inv s) : AnswersOrRefused (step s) := by
  cases htr : s.trace with
  | nil =>
    rw [step_of_trace_nil htr]
    exact answersOrRefused_of_runEvent rfl hs.drawn
  | cons e rest =>
    rw [step_of_trace_cons htr]
    exact answersOrRefused_of_runEvent (s := { s with trace := rest }) (hs.agentsOnly e (by simp [htr]))
      (hs.take_event htr)

/-- An enabled event answers: an overrun is not enabled (R39, R87). -/
theorem answers_of_eventEnabled {e : Event} {s : State} (he : eventEnabled e s = true) (hs : Inv s) :
    Answers (runEvent e s) := by
  rcases eventEnabled_cases he with ⟨i, hf, hr⟩ | ⟨r, hf⟩
  · rw [runEvent_of_fetch_run hf]
    refine (exec_answers_or_overrun (isAgentRow_of_rowEnabled hr) hs).resolve_right fun ⟨hoff, _⟩ => ?_
    exact Bool.false_ne_true (hoff.symm.trans hr)
  · exact ⟨_, runEvent_of_fetch_setReady hf⟩

/-- Settles O53: the step of any state of the invariant, and the event of any such state that is enabled. -/
theorem onlyOverrunsAndBadWordsStop : Obligations.OnlyOverrunsAndBadWordsStop :=
  fun _ hs => ⟨answersOrRefused_of_step hs, fun _ he => answers_of_eventEnabled he hs⟩

end Sys2Proof.Machine

/-! PROOFS of the reset family: what power-on leaves beside the values the source states (R281, decisions D7, D10, D19, D26). -/

namespace Sys2Proof.Machine

/-- Settles O50: the counters and the driver's registers, then the requests, the queues and the level of the lines, then the
cells whose value is the model's choice (logs 4 and 6). -/
theorem powerOnLeavesTheDecidedValues : Obligations.PowerOnLeavesTheDecidedValues := fun c e =>
  ⟨State.powerOn c e, rfl,
    State.powerOn_pos c e, State.powerOn_errcnt c e, State.powerOn_prev c e, State.powerOn_duty c e, State.powerOn_dir c e,
    State.powerOn_imask c e, State.powerOn_dpend c e, State.powerOn_tpend c e, State.powerOn_rxq c e, State.powerOn_txlog c e,
    State.powerOn_enc c e, State.powerOn_elapsed c e, State.powerOn_snapPos c e, State.powerOn_snapErr c e,
    State.powerOn_t0 c e, State.powerOn_txReady c e, State.powerOn_trace c e⟩

end Sys2Proof.Machine
